-- ==== Sys2Proof/Word.lean ====
section
/-! DEFINITION. The two word types of the machine (00_scope.md R6: `XLEN8`, `XLEN16`, `ALEN`). -/

namespace Sys2Proof

/-- The smallest addressable unit and the width of a general register: 8 bits (R6, R60). -/
abbrev Byte := BitVec 8

/-- SP, PC, a register pair, a bus address: 16 bits (R6, R60). -/
abbrev Word := BitVec 16

end Sys2Proof
end

