-- ==== Sys2Proof/Config.lean ====
section
/-! DEFINITION. The parameters of the block (00_scope.md R6) and its one free value.

The VALUES this hardware gives the parameters stand in `Machine/Bus.lean` (`busConfig`). -/

namespace Sys2Proof

/-- The implementation parameters of R6 that the bus depends on. -/
structure Config where
  /-- `SENTINEL`, the byte read from an unsupported address (20_memory.md R65). -/
  sentinel : Byte
  /-- `VRAM_BACKED`, whether 0x8000 to 0x9FFF has storage (R71). -/
  vramBacked : Bool
  /-- `CART`: whether the collaborator stores a byte written to the ROM window (R67). -/
  cartRomStores : Bool
  /-- `CART`: whether the collaborator stores a byte written to cartridge RAM (R68). -/
  cartRamStores : Bool
deriving DecidableEq, Repr

/-- FREE VALUE (assumption 1): the byte that a backed address holds before anything has been loaded or
written there: the cartridge image byte, or the power-on content of cartridge RAM, working RAM or high
RAM. The spec leaves it `OPEN` ("a model must not assume zero", R72, D21, U8), so it has no body. -/
opaque Config.powerOnByte : Nat → Byte

end Sys2Proof
end

