-- ==== Sys2Proof/Syntax.lean ====
section
/-! DEFINITION. The instruction set as syntax: one constructor per row of spec/opcode_table.json
(30_encoding.md R109), the operand vocabularies of R104 to R107, and the families of rows that one
rule of files 42 to 49 covers, indexed by those operands.

Names: the mnemonic in lower case, then each operand; `Ind` marks an operand in parentheses, that is
memory at that address; `IndHlInc` and `IndHlDec` are `(HL+)` and `(HL-)` (R119). -/

namespace Sys2Proof

/-- 8-bit register codes (R104): B, C, D, E, H, L, A. Code 6 is memory at HL, never a register. -/
inductive Reg8 where
  | b | c | d | e | h | l | a
deriving DecidableEq, Repr

/-- 16-bit register codes `rp` (R105): BC, DE, HL, SP. -/
inductive Pair where
  | bc | de | hl | sp
deriving DecidableEq, Repr

/-- 16-bit register codes `rp2` of `PUSH` and `POP` (R105): BC, DE, HL, AF. -/
inductive StackPair where
  | bc | de | hl | af
deriving DecidableEq, Repr

/-- Condition codes (R106): NZ, Z, NC, C. -/
inductive Cond where
  | nz | z | nc | c
deriving DecidableEq, Repr

/-- ALU operation codes (R107), in the order of the codes. -/
inductive AluOp where
  | add | adc | sub | sbc | and | xor | or | cp
deriving DecidableEq, Repr

/-- The eleven undefined slots (R116). -/
inductive UndefSlot where
  | xD3 | xDB | xDD | xE3 | xE4 | xEB | xEC | xED | xF4 | xFC | xFD
deriving DecidableEq, Repr

/-- The field code of an 8-bit register (R104). -/
def Reg8.code : Reg8 → Nat
  | .b => 0 | .c => 1 | .d => 2 | .e => 3 | .h => 4 | .l => 5 | .a => 7

/-- The field code of a 16-bit register, table `rp` (R105). -/
def Pair.code : Pair → Nat
  | .bc => 0 | .de => 1 | .hl => 2 | .sp => 3

/-- The field code of a 16-bit register, table `rp2` (R105). -/
def StackPair.code : StackPair → Nat
  | .bc => 0 | .de => 1 | .hl => 2 | .af => 3

/-- The field code of a condition (R106). -/
def Cond.code : Cond → Nat
  | .nz => 0 | .z => 1 | .nc => 2 | .c => 3

/-- The field code of an ALU operation (R107). -/
def AluOp.code : AluOp → Nat
  | .add => 0 | .adc => 1 | .sub => 2 | .sbc => 3 | .and => 4 | .xor => 5 | .or => 6 | .cp => 7

/-- The opcode byte of an undefined slot (R116). -/
def UndefSlot.byte : UndefSlot → Byte
  | .xD3 => 0xD3 | .xDB => 0xDB | .xDD => 0xDD | .xE3 => 0xE3 | .xE4 => 0xE4 | .xEB => 0xEB
  | .xEC => 0xEC | .xED => 0xED | .xF4 => 0xF4 | .xFC => 0xFC | .xFD => 0xFD

/-- The instructions: first the 42 rows with an operand, then the 214 without, each in the order of the
opcode map (R109). The operand of a row is the byte (`d8`, `a8`, `r8`) or the word (`d16`, `a16`) after
its opcode (R111 to R114). (Lean's compiler gives a constructor with fields a tag below 245, hence the
order.) -/
inductive Instr where
  | ldBcD16 (d16 : Word)
  | ldBD8 (d8 : Byte)
  | ldIndA16Sp (a16 : Word)
  | ldCD8 (d8 : Byte)
  | ldDeD16 (d16 : Word)
  | ldDD8 (d8 : Byte)
  | jrR8 (r8 : Byte)
  | ldED8 (d8 : Byte)
  | jrNzR8 (r8 : Byte)
  | ldHlD16 (d16 : Word)
  | ldHD8 (d8 : Byte)
  | jrZR8 (r8 : Byte)
  | ldLD8 (d8 : Byte)
  | jrNcR8 (r8 : Byte)
  | ldSpD16 (d16 : Word)
  | ldIndHlD8 (d8 : Byte)
  | jrCR8 (r8 : Byte)
  | ldAD8 (d8 : Byte)
  | jpNzA16 (a16 : Word)
  | jpA16 (a16 : Word)
  | callNzA16 (a16 : Word)
  | addAD8 (d8 : Byte)
  | jpZA16 (a16 : Word)
  | callZA16 (a16 : Word)
  | callA16 (a16 : Word)
  | adcAD8 (d8 : Byte)
  | jpNcA16 (a16 : Word)
  | callNcA16 (a16 : Word)
  | subD8 (d8 : Byte)
  | jpCA16 (a16 : Word)
  | callCA16 (a16 : Word)
  | sbcAD8 (d8 : Byte)
  | ldhIndA8A (a8 : Byte)
  | andD8 (d8 : Byte)
  | addSpR8 (r8 : Byte)
  | ldIndA16A (a16 : Word)
  | xorD8 (d8 : Byte)
  | ldhAIndA8 (a8 : Byte)
  | orD8 (d8 : Byte)
  | ldHlSpR8 (r8 : Byte)
  | ldAIndA16 (a16 : Word)
  | cpD8 (d8 : Byte)
  | nop
  | ldIndBcA
  | incBc
  | incB
  | decB
  | rlca
  | addHlBc
  | ldAIndBc
  | decBc
  | incC
  | decC
  | rrca
  | stop
  | ldIndDeA
  | incDe
  | incD
  | decD
  | rla
  | addHlDe
  | ldAIndDe
  | decDe
  | incE
  | decE
  | rra
  | ldIndHlIncA
  | incHl
  | incH
  | decH
  | daa
  | addHlHl
  | ldAIndHlInc
  | decHl
  | incL
  | decL
  | cpl
  | ldIndHlDecA
  | incSp
  | incIndHl
  | decIndHl
  | scf
  | addHlSp
  | ldAIndHlDec
  | decSp
  | incA
  | decA
  | ccf
  | ldBB
  | ldBC
  | ldBD
  | ldBE
  | ldBH
  | ldBL
  | ldBIndHl
  | ldBA
  | ldCB
  | ldCC
  | ldCD
  | ldCE
  | ldCH
  | ldCL
  | ldCIndHl
  | ldCA
  | ldDB
  | ldDC
  | ldDD
  | ldDE
  | ldDH
  | ldDL
  | ldDIndHl
  | ldDA
  | ldEB
  | ldEC
  | ldED
  | ldEE
  | ldEH
  | ldEL
  | ldEIndHl
  | ldEA
  | ldHB
  | ldHC
  | ldHD
  | ldHE
  | ldHH
  | ldHL
  | ldHIndHl
  | ldHA
  | ldLB
  | ldLC
  | ldLD
  | ldLE
  | ldLH
  | ldLL
  | ldLIndHl
  | ldLA
  | ldIndHlB
  | ldIndHlC
  | ldIndHlD
  | ldIndHlE
  | ldIndHlH
  | ldIndHlL
  | halt
  | ldIndHlA
  | ldAB
  | ldAC
  | ldAD
  | ldAE
  | ldAH
  | ldAL
  | ldAIndHl
  | ldAA
  | addAB
  | addAC
  | addAD
  | addAE
  | addAH
  | addAL
  | addAIndHl
  | addAA
  | adcAB
  | adcAC
  | adcAD
  | adcAE
  | adcAH
  | adcAL
  | adcAIndHl
  | adcAA
  | subB
  | subC
  | subD
  | subE
  | subH
  | subL
  | subIndHl
  | subA
  | sbcAB
  | sbcAC
  | sbcAD
  | sbcAE
  | sbcAH
  | sbcAL
  | sbcAIndHl
  | sbcAA
  | andB
  | andC
  | andD
  | andE
  | andH
  | andL
  | andIndHl
  | andA
  | xorB
  | xorC
  | xorD
  | xorE
  | xorH
  | xorL
  | xorIndHl
  | xorA
  | orB
  | orC
  | orD
  | orE
  | orH
  | orL
  | orIndHl
  | orA
  | cpB
  | cpC
  | cpD
  | cpE
  | cpH
  | cpL
  | cpIndHl
  | cpA
  | retNz
  | popBc
  | pushBc
  | rst00H
  | retZ
  | ret
  | prefixCb
  | rst08H
  | retNc
  | popDe
  | undefD3
  | pushDe
  | rst10H
  | retC
  | reti
  | undefDB
  | undefDD
  | rst18H
  | popHl
  | ldIndCA
  | undefE3
  | undefE4
  | pushHl
  | rst20H
  | jpHl
  | undefEB
  | undefEC
  | undefED
  | rst28H
  | popAf
  | ldAIndC
  | di
  | undefF4
  | pushAf
  | rst30H
  | ldSpHl
  | ei
  | undefFC
  | undefFD
  | rst38H
deriving DecidableEq, Repr

namespace Instr

/-- R200: the 49 rows `LD r,r'`. -/
def ldRegReg : Reg8 → Reg8 → Instr
  | .b, .b => .ldBB | .b, .c => .ldBC | .b, .d => .ldBD | .b, .e => .ldBE | .b, .h => .ldBH | .b, .l => .ldBL | .b, .a => .ldBA
  | .c, .b => .ldCB | .c, .c => .ldCC | .c, .d => .ldCD | .c, .e => .ldCE | .c, .h => .ldCH | .c, .l => .ldCL | .c, .a => .ldCA
  | .d, .b => .ldDB | .d, .c => .ldDC | .d, .d => .ldDD | .d, .e => .ldDE | .d, .h => .ldDH | .d, .l => .ldDL | .d, .a => .ldDA
  | .e, .b => .ldEB | .e, .c => .ldEC | .e, .d => .ldED | .e, .e => .ldEE | .e, .h => .ldEH | .e, .l => .ldEL | .e, .a => .ldEA
  | .h, .b => .ldHB | .h, .c => .ldHC | .h, .d => .ldHD | .h, .e => .ldHE | .h, .h => .ldHH | .h, .l => .ldHL | .h, .a => .ldHA
  | .l, .b => .ldLB | .l, .c => .ldLC | .l, .d => .ldLD | .l, .e => .ldLE | .l, .h => .ldLH | .l, .l => .ldLL | .l, .a => .ldLA
  | .a, .b => .ldAB | .a, .c => .ldAC | .a, .d => .ldAD | .a, .e => .ldAE | .a, .h => .ldAH | .a, .l => .ldAL | .a, .a => .ldAA

/-- R201: the 7 rows `LD r,(HL)`. -/
def ldRegIndHl : Reg8 → Instr
  | .b => .ldBIndHl | .c => .ldCIndHl | .d => .ldDIndHl | .e => .ldEIndHl | .h => .ldHIndHl | .l => .ldLIndHl | .a => .ldAIndHl

/-- R202: the 7 rows `LD (HL),r`. -/
def ldIndHlReg : Reg8 → Instr
  | .b => .ldIndHlB | .c => .ldIndHlC | .d => .ldIndHlD | .e => .ldIndHlE | .h => .ldIndHlH | .l => .ldIndHlL | .a => .ldIndHlA

/-- R203: the 7 rows `LD r,d8`. -/
def ldRegD8 : Reg8 → Byte → Instr
  | .b, v => .ldBD8 v | .c, v => .ldCD8 v | .d, v => .ldDD8 v | .e, v => .ldED8 v | .h, v => .ldHD8 v | .l, v => .ldLD8 v | .a, v => .ldAD8 v

/-- R217: the 4 rows `LD rr,d16`. -/
def ldPairD16 : Pair → Word → Instr
  | .bc, v => .ldBcD16 v | .de, v => .ldDeD16 v | .hl, v => .ldHlD16 v | .sp, v => .ldSpD16 v

/-- R240: the 7 rows `INC r`. -/
def incReg : Reg8 → Instr
  | .b => .incB | .c => .incC | .d => .incD | .e => .incE | .h => .incH | .l => .incL | .a => .incA

/-- R241: the 7 rows `DEC r`. -/
def decReg : Reg8 → Instr
  | .b => .decB | .c => .decC | .d => .decD | .e => .decE | .h => .decH | .l => .decL | .a => .decA

/-- R244: the 4 rows `INC rr`. -/
def incPair : Pair → Instr
  | .bc => .incBc | .de => .incDe | .hl => .incHl | .sp => .incSp

/-- R245: the 4 rows `DEC rr`. -/
def decPair : Pair → Instr
  | .bc => .decBc | .de => .decDe | .hl => .decHl | .sp => .decSp

/-- R274: the 4 rows `ADD HL,rr`. -/
def addHlPair : Pair → Instr
  | .bc => .addHlBc | .de => .addHlDe | .hl => .addHlHl | .sp => .addHlSp

/-- R250, R253, R256, R259, R262, R265, R268, R271: the 56 accumulator rows with a register. -/
def aluReg : AluOp → Reg8 → Instr
  | .add, .b => .addAB | .add, .c => .addAC | .add, .d => .addAD | .add, .e => .addAE | .add, .h => .addAH | .add, .l => .addAL | .add, .a => .addAA
  | .adc, .b => .adcAB | .adc, .c => .adcAC | .adc, .d => .adcAD | .adc, .e => .adcAE | .adc, .h => .adcAH | .adc, .l => .adcAL | .adc, .a => .adcAA
  | .sub, .b => .subB | .sub, .c => .subC | .sub, .d => .subD | .sub, .e => .subE | .sub, .h => .subH | .sub, .l => .subL | .sub, .a => .subA
  | .sbc, .b => .sbcAB | .sbc, .c => .sbcAC | .sbc, .d => .sbcAD | .sbc, .e => .sbcAE | .sbc, .h => .sbcAH | .sbc, .l => .sbcAL | .sbc, .a => .sbcAA
  | .and, .b => .andB | .and, .c => .andC | .and, .d => .andD | .and, .e => .andE | .and, .h => .andH | .and, .l => .andL | .and, .a => .andA
  | .xor, .b => .xorB | .xor, .c => .xorC | .xor, .d => .xorD | .xor, .e => .xorE | .xor, .h => .xorH | .xor, .l => .xorL | .xor, .a => .xorA
  | .or, .b => .orB | .or, .c => .orC | .or, .d => .orD | .or, .e => .orE | .or, .h => .orH | .or, .l => .orL | .or, .a => .orA
  | .cp, .b => .cpB | .cp, .c => .cpC | .cp, .d => .cpD | .cp, .e => .cpE | .cp, .h => .cpH | .cp, .l => .cpL | .cp, .a => .cpA

/-- R251, R254, R257, R260, R263, R266, R269, R272: the 8 accumulator rows with `(HL)`. -/
def aluIndHl : AluOp → Instr
  | .add => .addAIndHl | .adc => .adcAIndHl | .sub => .subIndHl | .sbc => .sbcAIndHl
  | .and => .andIndHl | .xor => .xorIndHl | .or => .orIndHl | .cp => .cpIndHl

/-- R252, R255, R258, R261, R264, R267, R270, R273: the 8 accumulator rows with `d8`. -/
def aluD8 : AluOp → Byte → Instr
  | .add, v => .addAD8 v | .adc, v => .adcAD8 v | .sub, v => .subD8 v | .sbc, v => .sbcAD8 v
  | .and, v => .andD8 v | .xor, v => .xorD8 v | .or, v => .orD8 v | .cp, v => .cpD8 v

/-- R291: the 4 rows `JR cc,r8`. -/
def jrCond : Cond → Byte → Instr
  | .nz, d => .jrNzR8 d | .z, d => .jrZR8 d | .nc, d => .jrNcR8 d | .c, d => .jrCR8 d

/-- R293: the 4 rows `JP cc,a16`. -/
def jpCond : Cond → Word → Instr
  | .nz, t => .jpNzA16 t | .z, t => .jpZA16 t | .nc, t => .jpNcA16 t | .c, t => .jpCA16 t

/-- R296: the 4 rows `CALL cc,a16`. -/
def callCond : Cond → Word → Instr
  | .nz, t => .callNzA16 t | .z, t => .callZA16 t | .nc, t => .callNcA16 t | .c, t => .callCA16 t

/-- R298: the 4 rows `RET cc`. -/
def retCond : Cond → Instr
  | .nz => .retNz | .z => .retZ | .nc => .retNc | .c => .retC

/-- R310: the 4 rows `PUSH rr`. -/
def pushPair : StackPair → Instr
  | .bc => .pushBc | .de => .pushDe | .hl => .pushHl | .af => .pushAf

/-- R311, R312: the 4 rows `POP rr`. -/
def popPair : StackPair → Instr
  | .bc => .popBc | .de => .popDe | .hl => .popHl | .af => .popAf

/-- R313: the 8 rows `RST n`, by restart number. -/
def rst : Fin 8 → Instr
  | 0 => .rst00H | 1 => .rst08H | 2 => .rst10H | 3 => .rst18H
  | 4 => .rst20H | 5 => .rst28H | 6 => .rst30H | 7 => .rst38H

/-- R345: the 11 undefined rows. -/
def undef : UndefSlot → Instr
  | .xD3 => .undefD3 | .xDB => .undefDB | .xDD => .undefDD | .xE3 => .undefE3 | .xE4 => .undefE4 | .xEB => .undefEB
  | .xEC => .undefEC | .xED => .undefED | .xF4 => .undefF4 | .xFC => .undefFC | .xFD => .undefFD

end Instr

end Sys2Proof
end

