-- ==== Sys2Proof/Machine/State.lean ====
section
/-! DEFINITION. The state of the machine (10_state.md), its faults and refusals, and reset. -/

namespace Sys2Proof.Machine

/-- The block raises no exception of any kind and has no fault state (60_exceptions.md R400): nobody
raises a fault, so the type is empty. Safe: no step can end in one. -/
inductive Fault where
deriving DecidableEq, Repr

/-- Why a step has no meaning. Every instruction has one here, so no step is refused. -/
inductive Refusal where
  /-- Raised by an arm of `exec` whose instruction has no meaning yet; safe, since the run stops. No arm
  raises it. -/
  | notModelled (mnemonic : String)
deriving DecidableEq, Repr

/-- One access on the bus (20_memory.md R61, R62): always one byte. -/
inductive BusAccess where
  /-- A read of `addr` that returned `value`. -/
  | read (addr : Word) (value : Byte)
  /-- A write of `value` to `addr`, whether or not the region stores it. -/
  | write (addr : Word) (value : Byte)
deriving DecidableEq, Repr

/-- The bytes behind the bus, as (address, byte) cells with strictly rising addresses: those that have
been loaded (the cartridge image) or written. -/
abbrev Memory := List Host.Cell

/-- CPU State (10_state.md R20, R33 to R35), the memory behind the bus (20_memory.md R63), and the
accesses of the current step. -/
structure State where
  /-- The accumulator (R22). -/
  a : Byte
  /-- The flags: bit 7 Z, bit 6 N, bit 5 H, bit 4 C, bits 3 to 0 always zero (R23). -/
  f : Byte
  /-- General registers (R21). -/
  b : Byte
  c : Byte
  d : Byte
  e : Byte
  h : Byte
  l : Byte
  /-- The stack pointer (R29). -/
  sp : Word
  /-- The program counter (R30). -/
  pc : Word
  /-- The last opcode byte fetched, diagnostic only (R33). -/
  opcode : Byte
  /-- The cycle counter, which never wraps (R34). -/
  cycles : Nat
  /-- HALTED when true, RUNNING when false (R35, 40_step_sequencer.md R140). -/
  halted : Bool
  /-- The cartridge image, cartridge RAM, working RAM and high RAM (R66, R68 to R70). -/
  mem : Memory
  /-- The MODEL's own field (assumption 8): the bus accesses of the step in progress or just made,
  oldest first (R75, R79). No instruction reads it. -/
  bus : List BusAccess
deriving DecidableEq, Repr

/-- What a meaning answers. -/
abbrev Result := Host.Outcome State Fault Refusal

/-- The state after reset (R40, R41); memory is not written by reset (R42), so nothing is listed. -/
def State.reset : State where
  a := 0x01
  f := 0xB0
  b := 0x00
  c := 0x13
  d := 0x00
  e := 0xD8
  h := 0x01
  l := 0x4D
  sp := 0xFFFE
  pc := 0x0100
  opcode := 0x00
  cycles := 0
  halted := false
  mem := []
  bus := []

end Sys2Proof.Machine
end

