-- ==== Sys2Proof/Machine/Bus.lean ====
section
/-! DEFINITION. The memory bus (20_memory.md): the parameter values, the region map, the cells behind it,
one-byte reads and writes, and which accesses the diagnostic channel reports. -/

namespace Sys2Proof.Machine

/-- The values this hardware gives the bus parameters (00_scope.md R6): `SENTINEL` = 0xFF (D9),
`VRAM_BACKED` = false (D10), and the default `CART`: ROM writes ignored (D19), cartridge RAM stores (D20). -/
def busConfig : Config where
  sentinel := 0xFF
  vramBacked := false
  cartRomStores := false
  cartRamStores := true

/-! ## The region map -/

/-- The regions of R63. -/
inductive Region where
  | cartRom | video | cartRam | workRam | highRam | unsupported
deriving DecidableEq, Repr

/-- R63, R64: which region an address belongs to, a function of the address alone. -/
def region (addr : Word) : Region :=
  let n := addr.toNat
  if n ≤ 0x7FFF then .cartRom
  else if n ≤ 0x9FFF then .video
  else if n ≤ 0xBFFF then .cartRam
  else if n ≤ 0xDFFF then .workRam
  else if n ≤ 0xFF7F then .unsupported
  else if n ≤ 0xFFFE then .highRam
  else .unsupported

/-- Whether a region has a byte behind each address (R66, R68 to R71). -/
def Region.backed : Region → Bool
  | .cartRom | .cartRam | .workRam | .highRam => true
  | .video => busConfig.vramBacked
  | .unsupported => false

/-- Whether a write to a region is stored (R65, R67 to R71). -/
def Region.stores : Region → Bool
  | .workRam | .highRam => true
  | .cartRom => busConfig.cartRomStores
  | .cartRam => busConfig.cartRamStores
  | .video => busConfig.vramBacked
  | .unsupported => false

/-- An address with a byte behind it. -/
def backedAt (addr : Word) : Bool := (region addr).backed

/-- An address where a write is stored. -/
def storesAt (addr : Word) : Bool := (region addr).stores

/-! ## The cells -/

/-- The byte listed for an address, if any. -/
def Memory.lookup : Memory → Nat → Option Byte
  | [], _ => none
  | (k, v) :: rest, n => if k = n then some v else Memory.lookup rest n

/-- List `v` for the address `n`, in place. -/
def Memory.insert : Memory → Nat → Byte → Memory
  | [], n, v => [(n, v)]
  | (k, w) :: rest, n, v =>
    if k < n then (k, w) :: Memory.insert rest n v
    else if k = n then (n, v) :: rest
    else (n, v) :: (k, w) :: rest

/-- The canonical form: addresses strictly rising, each one backed (assumption 2). What an unlisted
address holds is no listed value but the free value `Config.powerOnByte`. -/
abbrev Memory.wf (m : Memory) : Prop :=
  m.Pairwise (fun x y => x.1 < y.1) ∧ ∀ x ∈ m, x.1 < 65536 ∧ backedAt (BitVec.ofNat 16 x.1) = true

/-! ## One-byte accesses -/

/-- What a read of an address returns (R63, R65, R71, R80): the byte last loaded or written there, else its
initial byte; `SENTINEL` where nothing is behind the address. -/
def Memory.readByte (m : Memory) (addr : Word) : Byte :=
  if backedAt addr then (m.lookup addr.toNat).getD (Config.powerOnByte addr.toNat)
  else busConfig.sentinel

/-- What a write does to the bytes behind the bus (R65, R67 to R71): stored or ignored by region. -/
def Memory.writeByte (m : Memory) (addr : Word) (v : Byte) : Memory :=
  if storesAt addr then m.insert addr.toNat v else m

/-- The value of `MemRead(addr, 1)` (00_scope.md R10). -/
def State.readByte (s : State) (addr : Word) : Byte := s.mem.readByte addr

/-- The effect of `MemRead(addr, 1)`: nothing but the access itself (R76). -/
def State.noteRead (s : State) (addr : Word) : State :=
  { s with bus := s.bus ++ [.read addr (s.readByte addr)] }

/-- `MemWrite(addr, 1, v)` (00_scope.md R10). -/
def State.memWrite (s : State) (addr : Word) (v : Byte) : State :=
  { s with mem := s.mem.writeByte addr v, bus := s.bus ++ [.write addr v] }

/-! ## Diagnostics -/

/-- The address of an access. -/
def BusAccess.addr : BusAccess → Word
  | .read addr _ => addr
  | .write addr _ => addr

/-- E1 of 60_exceptions.md R401: an access to an unsupported address or to the unbacked video window is
reported (20_memory.md R79). -/
def BusAccess.reported (x : BusAccess) : Bool := !backedAt x.addr

/-- What the diagnostic channel reports of the step just made (R79, R420). -/
def State.diagnostics (s : State) : List BusAccess := s.bus.filter BusAccess.reported

end Sys2Proof.Machine
end

