-- ==== Sys2Proof/Machine/Costs.lean ====
section
/-! DEFINITION. The cost table (40_step_sequencer.md R151): machine cycles of every instruction form.

Each definition is one row. "document" marks a cost the source document gives; the others are general
knowledge by the spec's decision D12 (assumption 11). -/

namespace Sys2Proof.Machine.Cost

/-- `NOP`. -/
@[simp] def nop : Nat := 1
/-- `LD r,r'` (document). -/
@[simp] def ldRegReg : Nat := 1
/-- `LD r,(HL)` (document). -/
@[simp] def ldRegIndHl : Nat := 2
/-- `LD (HL),r` (document). -/
@[simp] def ldIndHlReg : Nat := 2
/-- `LD r,d8`. -/
@[simp] def ldRegD8 : Nat := 2
/-- `LD (HL),d8`. -/
@[simp] def ldIndHlD8 : Nat := 3
/-- `LD A,(BC)`, `LD A,(DE)`, `LD (BC),A`, `LD (DE),A` (document). -/
@[simp] def ldIndPair : Nat := 2
/-- `LD A,(HL+)`, `LD A,(HL-)`, `LD (HL+),A`, `LD (HL-),A`. -/
@[simp] def ldPostModified : Nat := 2
/-- `LD A,(a16)`, `LD (a16),A`. -/
@[simp] def ldAbsolute : Nat := 4
/-- `LDH A,(a8)`, `LDH (a8),A`. -/
@[simp] def ldh : Nat := 3
/-- `LD A,(C)`, `LD (C),A`. -/
@[simp] def ldIndC : Nat := 2
/-- `LD rr,d16` (document). -/
@[simp] def ldPairD16 : Nat := 3
/-- `LD SP,HL` (conflict C4). -/
@[simp] def ldSpHl : Nat := 2
/-- `LD (a16),SP`. -/
@[simp] def ldIndA16Sp : Nat := 5
/-- `INC r`, `DEC r` (document for `INC A`). -/
@[simp] def incDecReg : Nat := 1
/-- `INC (HL)`, `DEC (HL)` (document). -/
@[simp] def incDecIndHl : Nat := 3
/-- `INC rr`, `DEC rr`. -/
@[simp] def incDecPair : Nat := 2
/-- `ADD HL,rr`. -/
@[simp] def addHl : Nat := 2
/-- Accumulator operation with `r`. -/
@[simp] def aluReg : Nat := 1
/-- Accumulator operation with `(HL)`. -/
@[simp] def aluIndHl : Nat := 2
/-- Accumulator operation with `d8`. -/
@[simp] def aluD8 : Nat := 2
/-- `JR r8`, and `JR cc,r8` taken (document). -/
@[simp] def jrTaken : Nat := 3
/-- `JR cc,r8` not taken (document). -/
@[simp] def jrNotTaken : Nat := 2
/-- `JP a16` (document), and `JP cc,a16` taken. -/
@[simp] def jpTaken : Nat := 4
/-- `JP cc,a16` not taken. -/
@[simp] def jpNotTaken : Nat := 3
/-- `JP HL`. -/
@[simp] def jpHl : Nat := 1
/-- `CALL a16`, and `CALL cc,a16` taken. -/
@[simp] def callTaken : Nat := 6
/-- `CALL cc,a16` not taken. -/
@[simp] def callNotTaken : Nat := 3
/-- `RET`, `RETI`. -/
@[simp] def ret : Nat := 4
/-- `RET cc` taken. -/
@[simp] def retCondTaken : Nat := 5
/-- `RET cc` not taken. -/
@[simp] def retCondNotTaken : Nat := 2
/-- `RST n`. -/
@[simp] def rst : Nat := 4
/-- `PUSH rr`. -/
@[simp] def push : Nat := 4
/-- `POP rr`. -/
@[simp] def pop : Nat := 3
/-- `ADD SP,r8`. -/
@[simp] def addSp : Nat := 4
/-- `LD HL,SP+r8`. -/
@[simp] def ldHlSp : Nat := 3
/-- `RLCA`, `RRCA`, `RLA`, `RRA`, `DAA`, `CPL`, `SCF`, `CCF`. -/
@[simp] def flagOp : Nat := 1
/-- `HALT`. -/
@[simp] def halt : Nat := 1
/-- `STOP`, 0xCB, `DI`, `EI` (decisions D3, D4, D5). -/
@[simp] def stub : Nat := 1
/-- The undefined slots (document). -/
@[simp] def undef : Nat := 1
/-- The idle step while halted (document). -/
@[simp] def idle : Nat := 1

end Sys2Proof.Machine.Cost
end

