-- ==== Sys2Proof/WellFormed.lean ====
section
/-! DEFINITION. When a string of bytes is the code of one instruction (30_encoding.md R100, R110).

A term of `Instr` cannot be ill formed: its operand has the width the format gives it (R111 to R114),
and no operand value is reserved. What can be ill formed is the byte string a program holds, so the
checks stand on it. The lengths are written here from the lists of R110; the decoder gets its own from
the formats of the opcode table, and `Laws/Decode.lean` proves that the two agree. -/

namespace Sys2Proof

/-- R110: "Three bytes: 0x01, 0x11, 0x21, 0x31; 0x08; 0xC2, 0xCA, 0xD2, 0xDA; 0xC3; 0xC4, 0xCC, 0xD4,
0xDC; 0xCD; 0xEA; 0xFA". -/
def threeByteOpcodes : List Nat :=
  [0x01, 0x11, 0x21, 0x31, 0x08, 0xC2, 0xCA, 0xD2, 0xDA, 0xC3, 0xC4, 0xCC, 0xD4, 0xDC, 0xCD, 0xEA, 0xFA]

/-- R110: "Two bytes: 0x06, 0x0E, 0x16, 0x1E, 0x26, 0x2E, 0x36, 0x3E; 0x18, 0x20, 0x28, 0x30, 0x38;
0xC6, 0xCE, 0xD6, 0xDE, 0xE6, 0xEE, 0xF6, 0xFE; 0xE0, 0xF0; 0xE8; 0xF8". -/
def twoByteOpcodes : List Nat :=
  [0x06, 0x0E, 0x16, 0x1E, 0x26, 0x2E, 0x36, 0x3E, 0x18, 0x20, 0x28, 0x30, 0x38,
   0xC6, 0xCE, 0xD6, 0xDE, 0xE6, 0xEE, 0xF6, 0xFE, 0xE0, 0xF0, 0xE8, 0xF8]

/-- R110: the length from the opcode byte alone; "One byte: every other opcode". -/
def lengthOfOpcode (op : Byte) : Nat :=
  if threeByteOpcodes.contains op.toNat then 3
  else if twoByteOpcodes.contains op.toNat then 2
  else 1

/-- Check 1: there is an opcode byte. -/
def hasOpcode (code : List Byte) : Bool := !code.isEmpty

/-- Check 2: no operand byte is missing. -/
def hasAllOperands : List Byte → Bool
  | [] => false
  | op :: rest => decide (lengthOfOpcode op ≤ rest.length + 1)

/-- Check 3: no byte is left over. -/
def hasNoExcess : List Byte → Bool
  | [] => true
  | op :: rest => decide (rest.length + 1 ≤ lengthOfOpcode op)

/-- The bytes are exactly one instruction (R100). -/
def wellFormedCode (code : List Byte) : Bool :=
  hasOpcode code && hasAllOperands code && hasNoExcess code

end Sys2Proof
end

