-- ==== Sys2Proof/Decode.lean ====
section
/-! DEFINITION. The opcode decode table (30_encoding.md R103, R108, R109, R118), the decoder over any
bytes, the encoder, and the byte-order and sign-extension helpers of operand assembly (R111 to R114).

The table is read row by row beside the grid of R109: `opcodeRow2` is the grid's row `2x`. -/

namespace Sys2Proof

/-! ## Operand assembly -/

/-- `{hi, lo}` (R9): the 16-bit value with high byte `hi`; R112: "d16 = {hi, lo}". -/
def word16 (hi lo : Byte) : Word := hi ++ lo

/-- `v[15:8]` (R9). -/
def hiByte (v : Word) : Byte := v.extractLsb' 8 8

/-- `v[7:0]` (R9). -/
def loByte (v : Word) : Byte := v.extractLsb' 0 8

/-- `sext_16` (R9, R113): the signed displacement `r8` copied to 16 bits through bit 7. -/
def signExtend16 (d : Byte) : Word := d.signExtend 16

/-- `zext_16` (R9). -/
def zeroExtend16 (v : Byte) : Word := v.zeroExtend 16

/-! ## The table -/

/-- One cell of the map with its format (R101): how many operand bytes follow, and what the instruction
makes of them. -/
inductive Entry where
  /-- Format `OP`. -/
  | op (i : Instr)
  /-- Format `OP_D8` (R111). -/
  | opD8 (mk : Byte → Instr)
  /-- Format `OP_A8` (R114). -/
  | opA8 (mk : Byte → Instr)
  /-- Format `OP_R8` (R113). -/
  | opR8 (mk : Byte → Instr)
  /-- Format `OP_D16` (R112). -/
  | opD16 (mk : Word → Instr)
  /-- Format `OP_A16` (R112). -/
  | opA16 (mk : Word → Instr)

/-- The length in bytes of a format (R101). -/
def Entry.length : Entry → Nat
  | .op _ => 1
  | .opD8 _ | .opA8 _ | .opR8 _ => 2
  | .opD16 _ | .opA16 _ => 3

/-- R109, row `0x`. -/
def opcodeRow0 : List Entry :=
  [.op .nop, .opD16 .ldBcD16, .op .ldIndBcA, .op .incBc,
   .op .incB, .op .decB, .opD8 .ldBD8, .op .rlca,
   .opA16 .ldIndA16Sp, .op .addHlBc, .op .ldAIndBc, .op .decBc,
   .op .incC, .op .decC, .opD8 .ldCD8, .op .rrca]

/-- R109, row `1x`. -/
def opcodeRow1 : List Entry :=
  [.op .stop, .opD16 .ldDeD16, .op .ldIndDeA, .op .incDe,
   .op .incD, .op .decD, .opD8 .ldDD8, .op .rla,
   .opR8 .jrR8, .op .addHlDe, .op .ldAIndDe, .op .decDe,
   .op .incE, .op .decE, .opD8 .ldED8, .op .rra]

/-- R109, row `2x`. -/
def opcodeRow2 : List Entry :=
  [.opR8 .jrNzR8, .opD16 .ldHlD16, .op .ldIndHlIncA, .op .incHl,
   .op .incH, .op .decH, .opD8 .ldHD8, .op .daa,
   .opR8 .jrZR8, .op .addHlHl, .op .ldAIndHlInc, .op .decHl,
   .op .incL, .op .decL, .opD8 .ldLD8, .op .cpl]

/-- R109, row `3x`. -/
def opcodeRow3 : List Entry :=
  [.opR8 .jrNcR8, .opD16 .ldSpD16, .op .ldIndHlDecA, .op .incSp,
   .op .incIndHl, .op .decIndHl, .opD8 .ldIndHlD8, .op .scf,
   .opR8 .jrCR8, .op .addHlSp, .op .ldAIndHlDec, .op .decSp,
   .op .incA, .op .decA, .opD8 .ldAD8, .op .ccf]

/-- R109, row `4x`. -/
def opcodeRow4 : List Entry :=
  [.op .ldBB, .op .ldBC, .op .ldBD, .op .ldBE,
   .op .ldBH, .op .ldBL, .op .ldBIndHl, .op .ldBA,
   .op .ldCB, .op .ldCC, .op .ldCD, .op .ldCE,
   .op .ldCH, .op .ldCL, .op .ldCIndHl, .op .ldCA]

/-- R109, row `5x`. -/
def opcodeRow5 : List Entry :=
  [.op .ldDB, .op .ldDC, .op .ldDD, .op .ldDE,
   .op .ldDH, .op .ldDL, .op .ldDIndHl, .op .ldDA,
   .op .ldEB, .op .ldEC, .op .ldED, .op .ldEE,
   .op .ldEH, .op .ldEL, .op .ldEIndHl, .op .ldEA]

/-- R109, row `6x`. -/
def opcodeRow6 : List Entry :=
  [.op .ldHB, .op .ldHC, .op .ldHD, .op .ldHE,
   .op .ldHH, .op .ldHL, .op .ldHIndHl, .op .ldHA,
   .op .ldLB, .op .ldLC, .op .ldLD, .op .ldLE,
   .op .ldLH, .op .ldLL, .op .ldLIndHl, .op .ldLA]

/-- R109, row `7x`. -/
def opcodeRow7 : List Entry :=
  [.op .ldIndHlB, .op .ldIndHlC, .op .ldIndHlD, .op .ldIndHlE,
   .op .ldIndHlH, .op .ldIndHlL, .op .halt, .op .ldIndHlA,
   .op .ldAB, .op .ldAC, .op .ldAD, .op .ldAE,
   .op .ldAH, .op .ldAL, .op .ldAIndHl, .op .ldAA]

/-- R109, row `8x`. -/
def opcodeRow8 : List Entry :=
  [.op .addAB, .op .addAC, .op .addAD, .op .addAE,
   .op .addAH, .op .addAL, .op .addAIndHl, .op .addAA,
   .op .adcAB, .op .adcAC, .op .adcAD, .op .adcAE,
   .op .adcAH, .op .adcAL, .op .adcAIndHl, .op .adcAA]

/-- R109, row `9x`. -/
def opcodeRow9 : List Entry :=
  [.op .subB, .op .subC, .op .subD, .op .subE,
   .op .subH, .op .subL, .op .subIndHl, .op .subA,
   .op .sbcAB, .op .sbcAC, .op .sbcAD, .op .sbcAE,
   .op .sbcAH, .op .sbcAL, .op .sbcAIndHl, .op .sbcAA]

/-- R109, row `Ax`. -/
def opcodeRowA : List Entry :=
  [.op .andB, .op .andC, .op .andD, .op .andE,
   .op .andH, .op .andL, .op .andIndHl, .op .andA,
   .op .xorB, .op .xorC, .op .xorD, .op .xorE,
   .op .xorH, .op .xorL, .op .xorIndHl, .op .xorA]

/-- R109, row `Bx`. -/
def opcodeRowB : List Entry :=
  [.op .orB, .op .orC, .op .orD, .op .orE,
   .op .orH, .op .orL, .op .orIndHl, .op .orA,
   .op .cpB, .op .cpC, .op .cpD, .op .cpE,
   .op .cpH, .op .cpL, .op .cpIndHl, .op .cpA]

/-- R109, row `Cx`. -/
def opcodeRowC : List Entry :=
  [.op .retNz, .op .popBc, .opA16 .jpNzA16, .opA16 .jpA16,
   .opA16 .callNzA16, .op .pushBc, .opD8 .addAD8, .op .rst00H,
   .op .retZ, .op .ret, .opA16 .jpZA16, .op .prefixCb,
   .opA16 .callZA16, .opA16 .callA16, .opD8 .adcAD8, .op .rst08H]

/-- R109, row `Dx`. -/
def opcodeRowD : List Entry :=
  [.op .retNc, .op .popDe, .opA16 .jpNcA16, .op .undefD3,
   .opA16 .callNcA16, .op .pushDe, .opD8 .subD8, .op .rst10H,
   .op .retC, .op .reti, .opA16 .jpCA16, .op .undefDB,
   .opA16 .callCA16, .op .undefDD, .opD8 .sbcAD8, .op .rst18H]

/-- R109, row `Ex`. -/
def opcodeRowE : List Entry :=
  [.opA8 .ldhIndA8A, .op .popHl, .op .ldIndCA, .op .undefE3,
   .op .undefE4, .op .pushHl, .opD8 .andD8, .op .rst20H,
   .opR8 .addSpR8, .op .jpHl, .opA16 .ldIndA16A, .op .undefEB,
   .op .undefEC, .op .undefED, .opD8 .xorD8, .op .rst28H]

/-- R109, row `Fx`. -/
def opcodeRowF : List Entry :=
  [.opA8 .ldhAIndA8, .op .popAf, .op .ldAIndC, .op .di,
   .op .undefF4, .op .pushAf, .opD8 .orD8, .op .rst30H,
   .opR8 .ldHlSpR8, .op .ldSpHl, .opA16 .ldAIndA16, .op .ei,
   .op .undefFC, .op .undefFD, .opD8 .cpD8, .op .rst38H]

/-- The decode table (R109): "row = `opcode[7:4]`, column = `opcode[3:0]`" (R103). -/
def opcodeTable : List Entry :=
  opcodeRow0 ++ opcodeRow1 ++ opcodeRow2 ++ opcodeRow3 ++ opcodeRow4 ++ opcodeRow5 ++ opcodeRow6 ++
  opcodeRow7 ++ opcodeRow8 ++ opcodeRow9 ++ opcodeRowA ++ opcodeRowB ++ opcodeRowC ++ opcodeRowD ++
  opcodeRowE ++ opcodeRowF

/-- `handler(opcode)` (40_step_sequencer.md R145): the table's entry for a byte. The table has 256
entries (`opcodeTable_length`), so the default is never taken. -/
def handler (op : Byte) : Entry := opcodeTable.getD op.toNat (.op .nop)

/-! ## The decoder -/

/-- Why a byte string is not decoded. No opcode byte is ever rejected (R118: "The decoder has no invalid
verdict"): only bytes that are missing are. -/
inductive DecodeError where
  /-- The byte string is empty. -/
  | noOpcode
  /-- The operand bytes of this opcode are missing. -/
  | missingOperand (op : Byte)
deriving DecidableEq, Repr

/-- What the decoder answers: an instruction and the bytes after it, or a rejection by name. -/
inductive Decoded where
  | ok (i : Instr) (rest : List Byte)
  | rejected (why : DecodeError)
deriving DecidableEq, Repr

/-- Assemble the operand of an entry from the bytes after its opcode (R111 to R114; low byte first). -/
def Entry.assemble (op : Byte) : Entry → List Byte → Decoded
  | .op i, rest => .ok i rest
  | .opD8 mk, d8 :: rest => .ok (mk d8) rest
  | .opA8 mk, a8 :: rest => .ok (mk a8) rest
  | .opR8 mk, r8 :: rest => .ok (mk r8) rest
  | .opD16 mk, lo :: hi :: rest => .ok (mk (word16 hi lo)) rest
  | .opA16 mk, lo :: hi :: rest => .ok (mk (word16 hi lo)) rest
  | _, _ => .rejected (.missingOperand op)

/-- The decoder, total on any bytes (R100, R118). -/
def decode : List Byte → Decoded
  | [] => .rejected .noOpcode
  | op :: rest => (handler op).assemble op rest

/-! ## The encoder -/

/-- The bytes of an instruction (R100, R101, R109), opcode first, operand low byte first. -/
def encode : Instr → List Byte
  | .nop => [0x00]
  | .ldBcD16 d16 => [0x01, loByte d16, hiByte d16]
  | .ldIndBcA => [0x02]
  | .incBc => [0x03]
  | .incB => [0x04]
  | .decB => [0x05]
  | .ldBD8 d8 => [0x06, d8]
  | .rlca => [0x07]
  | .ldIndA16Sp a16 => [0x08, loByte a16, hiByte a16]
  | .addHlBc => [0x09]
  | .ldAIndBc => [0x0A]
  | .decBc => [0x0B]
  | .incC => [0x0C]
  | .decC => [0x0D]
  | .ldCD8 d8 => [0x0E, d8]
  | .rrca => [0x0F]
  | .stop => [0x10]
  | .ldDeD16 d16 => [0x11, loByte d16, hiByte d16]
  | .ldIndDeA => [0x12]
  | .incDe => [0x13]
  | .incD => [0x14]
  | .decD => [0x15]
  | .ldDD8 d8 => [0x16, d8]
  | .rla => [0x17]
  | .jrR8 r8 => [0x18, r8]
  | .addHlDe => [0x19]
  | .ldAIndDe => [0x1A]
  | .decDe => [0x1B]
  | .incE => [0x1C]
  | .decE => [0x1D]
  | .ldED8 d8 => [0x1E, d8]
  | .rra => [0x1F]
  | .jrNzR8 r8 => [0x20, r8]
  | .ldHlD16 d16 => [0x21, loByte d16, hiByte d16]
  | .ldIndHlIncA => [0x22]
  | .incHl => [0x23]
  | .incH => [0x24]
  | .decH => [0x25]
  | .ldHD8 d8 => [0x26, d8]
  | .daa => [0x27]
  | .jrZR8 r8 => [0x28, r8]
  | .addHlHl => [0x29]
  | .ldAIndHlInc => [0x2A]
  | .decHl => [0x2B]
  | .incL => [0x2C]
  | .decL => [0x2D]
  | .ldLD8 d8 => [0x2E, d8]
  | .cpl => [0x2F]
  | .jrNcR8 r8 => [0x30, r8]
  | .ldSpD16 d16 => [0x31, loByte d16, hiByte d16]
  | .ldIndHlDecA => [0x32]
  | .incSp => [0x33]
  | .incIndHl => [0x34]
  | .decIndHl => [0x35]
  | .ldIndHlD8 d8 => [0x36, d8]
  | .scf => [0x37]
  | .jrCR8 r8 => [0x38, r8]
  | .addHlSp => [0x39]
  | .ldAIndHlDec => [0x3A]
  | .decSp => [0x3B]
  | .incA => [0x3C]
  | .decA => [0x3D]
  | .ldAD8 d8 => [0x3E, d8]
  | .ccf => [0x3F]
  | .ldBB => [0x40]
  | .ldBC => [0x41]
  | .ldBD => [0x42]
  | .ldBE => [0x43]
  | .ldBH => [0x44]
  | .ldBL => [0x45]
  | .ldBIndHl => [0x46]
  | .ldBA => [0x47]
  | .ldCB => [0x48]
  | .ldCC => [0x49]
  | .ldCD => [0x4A]
  | .ldCE => [0x4B]
  | .ldCH => [0x4C]
  | .ldCL => [0x4D]
  | .ldCIndHl => [0x4E]
  | .ldCA => [0x4F]
  | .ldDB => [0x50]
  | .ldDC => [0x51]
  | .ldDD => [0x52]
  | .ldDE => [0x53]
  | .ldDH => [0x54]
  | .ldDL => [0x55]
  | .ldDIndHl => [0x56]
  | .ldDA => [0x57]
  | .ldEB => [0x58]
  | .ldEC => [0x59]
  | .ldED => [0x5A]
  | .ldEE => [0x5B]
  | .ldEH => [0x5C]
  | .ldEL => [0x5D]
  | .ldEIndHl => [0x5E]
  | .ldEA => [0x5F]
  | .ldHB => [0x60]
  | .ldHC => [0x61]
  | .ldHD => [0x62]
  | .ldHE => [0x63]
  | .ldHH => [0x64]
  | .ldHL => [0x65]
  | .ldHIndHl => [0x66]
  | .ldHA => [0x67]
  | .ldLB => [0x68]
  | .ldLC => [0x69]
  | .ldLD => [0x6A]
  | .ldLE => [0x6B]
  | .ldLH => [0x6C]
  | .ldLL => [0x6D]
  | .ldLIndHl => [0x6E]
  | .ldLA => [0x6F]
  | .ldIndHlB => [0x70]
  | .ldIndHlC => [0x71]
  | .ldIndHlD => [0x72]
  | .ldIndHlE => [0x73]
  | .ldIndHlH => [0x74]
  | .ldIndHlL => [0x75]
  | .halt => [0x76]
  | .ldIndHlA => [0x77]
  | .ldAB => [0x78]
  | .ldAC => [0x79]
  | .ldAD => [0x7A]
  | .ldAE => [0x7B]
  | .ldAH => [0x7C]
  | .ldAL => [0x7D]
  | .ldAIndHl => [0x7E]
  | .ldAA => [0x7F]
  | .addAB => [0x80]
  | .addAC => [0x81]
  | .addAD => [0x82]
  | .addAE => [0x83]
  | .addAH => [0x84]
  | .addAL => [0x85]
  | .addAIndHl => [0x86]
  | .addAA => [0x87]
  | .adcAB => [0x88]
  | .adcAC => [0x89]
  | .adcAD => [0x8A]
  | .adcAE => [0x8B]
  | .adcAH => [0x8C]
  | .adcAL => [0x8D]
  | .adcAIndHl => [0x8E]
  | .adcAA => [0x8F]
  | .subB => [0x90]
  | .subC => [0x91]
  | .subD => [0x92]
  | .subE => [0x93]
  | .subH => [0x94]
  | .subL => [0x95]
  | .subIndHl => [0x96]
  | .subA => [0x97]
  | .sbcAB => [0x98]
  | .sbcAC => [0x99]
  | .sbcAD => [0x9A]
  | .sbcAE => [0x9B]
  | .sbcAH => [0x9C]
  | .sbcAL => [0x9D]
  | .sbcAIndHl => [0x9E]
  | .sbcAA => [0x9F]
  | .andB => [0xA0]
  | .andC => [0xA1]
  | .andD => [0xA2]
  | .andE => [0xA3]
  | .andH => [0xA4]
  | .andL => [0xA5]
  | .andIndHl => [0xA6]
  | .andA => [0xA7]
  | .xorB => [0xA8]
  | .xorC => [0xA9]
  | .xorD => [0xAA]
  | .xorE => [0xAB]
  | .xorH => [0xAC]
  | .xorL => [0xAD]
  | .xorIndHl => [0xAE]
  | .xorA => [0xAF]
  | .orB => [0xB0]
  | .orC => [0xB1]
  | .orD => [0xB2]
  | .orE => [0xB3]
  | .orH => [0xB4]
  | .orL => [0xB5]
  | .orIndHl => [0xB6]
  | .orA => [0xB7]
  | .cpB => [0xB8]
  | .cpC => [0xB9]
  | .cpD => [0xBA]
  | .cpE => [0xBB]
  | .cpH => [0xBC]
  | .cpL => [0xBD]
  | .cpIndHl => [0xBE]
  | .cpA => [0xBF]
  | .retNz => [0xC0]
  | .popBc => [0xC1]
  | .jpNzA16 a16 => [0xC2, loByte a16, hiByte a16]
  | .jpA16 a16 => [0xC3, loByte a16, hiByte a16]
  | .callNzA16 a16 => [0xC4, loByte a16, hiByte a16]
  | .pushBc => [0xC5]
  | .addAD8 d8 => [0xC6, d8]
  | .rst00H => [0xC7]
  | .retZ => [0xC8]
  | .ret => [0xC9]
  | .jpZA16 a16 => [0xCA, loByte a16, hiByte a16]
  | .prefixCb => [0xCB]
  | .callZA16 a16 => [0xCC, loByte a16, hiByte a16]
  | .callA16 a16 => [0xCD, loByte a16, hiByte a16]
  | .adcAD8 d8 => [0xCE, d8]
  | .rst08H => [0xCF]
  | .retNc => [0xD0]
  | .popDe => [0xD1]
  | .jpNcA16 a16 => [0xD2, loByte a16, hiByte a16]
  | .undefD3 => [0xD3]
  | .callNcA16 a16 => [0xD4, loByte a16, hiByte a16]
  | .pushDe => [0xD5]
  | .subD8 d8 => [0xD6, d8]
  | .rst10H => [0xD7]
  | .retC => [0xD8]
  | .reti => [0xD9]
  | .jpCA16 a16 => [0xDA, loByte a16, hiByte a16]
  | .undefDB => [0xDB]
  | .callCA16 a16 => [0xDC, loByte a16, hiByte a16]
  | .undefDD => [0xDD]
  | .sbcAD8 d8 => [0xDE, d8]
  | .rst18H => [0xDF]
  | .ldhIndA8A a8 => [0xE0, a8]
  | .popHl => [0xE1]
  | .ldIndCA => [0xE2]
  | .undefE3 => [0xE3]
  | .undefE4 => [0xE4]
  | .pushHl => [0xE5]
  | .andD8 d8 => [0xE6, d8]
  | .rst20H => [0xE7]
  | .addSpR8 r8 => [0xE8, r8]
  | .jpHl => [0xE9]
  | .ldIndA16A a16 => [0xEA, loByte a16, hiByte a16]
  | .undefEB => [0xEB]
  | .undefEC => [0xEC]
  | .undefED => [0xED]
  | .xorD8 d8 => [0xEE, d8]
  | .rst28H => [0xEF]
  | .ldhAIndA8 a8 => [0xF0, a8]
  | .popAf => [0xF1]
  | .ldAIndC => [0xF2]
  | .di => [0xF3]
  | .undefF4 => [0xF4]
  | .pushAf => [0xF5]
  | .orD8 d8 => [0xF6, d8]
  | .rst30H => [0xF7]
  | .ldHlSpR8 r8 => [0xF8, r8]
  | .ldSpHl => [0xF9]
  | .ldAIndA16 a16 => [0xFA, loByte a16, hiByte a16]
  | .ei => [0xFB]
  | .undefFC => [0xFC]
  | .undefFD => [0xFD]
  | .cpD8 d8 => [0xFE, d8]
  | .rst38H => [0xFF]

/-! ## Words numbered as spec/opcode_table.json numbers them -/

/-- The three bytes of the instruction whose bits are `w`, of which the table gives `nbits`: byte k holds
bits 8k+7 to 8k, and every bit above `nbits` is 0. -/
def tableBytes (nbits w : Nat) : List Byte :=
  let bits := w % 2 ^ nbits
  [BitVec.ofNat 8 bits, BitVec.ofNat 8 (bits / 2 ^ 8), BitVec.ofNat 8 (bits / 2 ^ 16)]

/-- The instruction this decoder reads from a word of the opcode table. -/
def decodeTableWord (nbits w : Nat) : Option Instr :=
  match decode (tableBytes nbits w) with
  | .ok i _ => some i
  | .rejected _ => none

end Sys2Proof
end

