-- ==== Sys2Proof/Machine/Flags.lean ====
section
/-! DEFINITION. The flag register and the ALU helpers with their flag contracts (10_state.md R23, R27, R28;
41_alu_helpers.md). Flags are computed on the exact integers, results modulo 2^8 or 2^16 (R160). -/

namespace Sys2Proof.Machine

/-! ## The flag register -/

/-- `F.Z = F[7]` (R27). -/
def flagZ (f : Byte) : Bool := f.getLsbD 7

/-- `F.N = F[6]` (R27). -/
def flagN (f : Byte) : Bool := f.getLsbD 6

/-- `F.H = F[5]` (R27). -/
def flagH (f : Byte) : Bool := f.getLsbD 5

/-- `F.C = F[4]` (R27). -/
def flagC (f : Byte) : Bool := f.getLsbD 4

/-- Write one bit of a byte and leave the others (R27: "must not disturb the other three flag bits"). -/
def writeBit (f : Byte) (i : Nat) (b : Bool) : Byte :=
  if b then f ||| ((1 : Byte) <<< i) else f &&& ~~~((1 : Byte) <<< i)

/-- What an operation does to the flags (R28): the value written, or `none` for a flag that is "unchanged",
that is not written (R27). -/
structure FlagWrite where
  z : Option Bool
  n : Option Bool
  h : Option Bool
  c : Option Bool
deriving DecidableEq, Repr

/-- Write a bit, or leave it. -/
def writeBit? (f : Byte) (i : Nat) : Option Bool → Byte
  | some b => writeBit f i b
  | none => f

/-- Write the listed flags; bits 3 to 0 are left alone (R26, R27). -/
def FlagWrite.apply (w : FlagWrite) (f : Byte) : Byte :=
  writeBit? (writeBit? (writeBit? (writeBit? f 7 w.z) 6 w.n) 5 w.h) 4 w.c

/-- `F <- v & 0xF0`, the low byte of a write to AF (R25). -/
def maskFlags (v : Byte) : Byte := v &&& 0xF0

/-! ## Results -/

/-- An 8-bit result with its flags. -/
structure Alu8 where
  result : Byte
  flags : FlagWrite
deriving DecidableEq, Repr

/-- A 16-bit result with its flags. -/
structure Alu16 where
  result : Word
  flags : FlagWrite
deriving DecidableEq, Repr

/-- The low nibble `v & 0xF` as a number. -/
def lowNibble (v : Byte) : Nat := v.toNat % 16

/-- A carry flag as the number 0 or 1. -/
def carryIn (c : Bool) : Nat := c.toNat

/-! ## 8-bit add and subtract -/

/-- `add8` (R161). -/
def add8 (a b : Byte) : Alu8 :=
  let result := BitVec.ofNat 8 (a.toNat + b.toNat)
  { result
    flags :=
      { z := some (result == 0)
        n := some false
        h := some (decide (lowNibble a + lowNibble b > 0xF))
        c := some (decide (a.toNat + b.toNat > 0xFF)) } }

/-- `adc8` (R162): H and C on the three-way sums. -/
def adc8 (a b : Byte) (c : Bool) : Alu8 :=
  let result := BitVec.ofNat 8 (a.toNat + b.toNat + carryIn c)
  { result
    flags :=
      { z := some (result == 0)
        n := some false
        h := some (decide (lowNibble a + lowNibble b + carryIn c > 0xF))
        c := some (decide (a.toNat + b.toNat + carryIn c > 0xFF)) } }

/-- `sub8` (R163, conflict C3). -/
def sub8 (a b : Byte) : Alu8 :=
  let result := BitVec.ofInt 8 ((a.toNat : Int) - b.toNat)
  { result
    flags :=
      { z := some (result == 0)
        n := some true
        h := some (decide (lowNibble a < lowNibble b))
        c := some (decide (a.toNat < b.toNat)) } }

/-- `sbc8` (R164): the comparisons are over the integers. -/
def sbc8 (a b : Byte) (c : Bool) : Alu8 :=
  let result := BitVec.ofInt 8 ((a.toNat : Int) - b.toNat - carryIn c)
  { result
    flags :=
      { z := some (result == 0)
        n := some true
        h := some (decide (lowNibble a < lowNibble b + carryIn c))
        c := some (decide (a.toNat < b.toNat + carryIn c)) } }

/-- `cp8` (R165): "computes sub8's flags without storing the result". -/
def cp8 (a b : Byte) : FlagWrite := (sub8 a b).flags

/-! ## 8-bit logic -/

/-- `and8` (R166): H = 1, C = 0. -/
def and8 (a b : Byte) : Alu8 :=
  let result := a &&& b
  { result, flags := { z := some (result == 0), n := some false, h := some true, c := some false } }

/-- `or8` (R167): H = 0, C = 0. -/
def or8 (a b : Byte) : Alu8 :=
  let result := a ||| b
  { result, flags := { z := some (result == 0), n := some false, h := some false, c := some false } }

/-- `xor8` (R168): H = 0, C = 0. -/
def xor8 (a b : Byte) : Alu8 :=
  let result := a ^^^ b
  { result, flags := { z := some (result == 0), n := some false, h := some false, c := some false } }

/-! ## 8-bit increment and decrement -/

/-- `inc8` (R169): H from the new value, C not written. -/
def inc8 (v : Byte) : Alu8 :=
  let result := BitVec.ofNat 8 (v.toNat + 1)
  { result
    flags :=
      { z := some (result == 0), n := some false, h := some (decide (lowNibble result = 0)), c := none } }

/-- `dec8` (R170): H from the new value, C not written. -/
def dec8 (v : Byte) : Alu8 :=
  let result := BitVec.ofInt 8 ((v.toNat : Int) - 1)
  { result
    flags :=
      { z := some (result == 0), n := some true, h := some (decide (lowNibble result = 0xF)), c := none } }

/-! ## 16-bit operations -/

/-- `add16` (R171): H on bit 11, C on bit 15, Z not written. -/
def add16 (a b : Word) : Alu16 :=
  { result := BitVec.ofNat 16 (a.toNat + b.toNat)
    flags :=
      { z := none
        n := some false
        h := some (decide (a.toNat % 0x1000 + b.toNat % 0x1000 > 0x0FFF))
        c := some (decide (a.toNat + b.toNat > 0xFFFF)) } }

/-- `inc16` (R174): no flag. -/
def inc16 (v : Word) : Word := v + 1

/-- `dec16` (R174): no flag. -/
def dec16 (v : Word) : Word := v - 1

/-- `addsp` (R173, conflict C7): the result uses the signed displacement, H and C the unsigned byte added
to the low byte of SP. -/
def addsp (sp : Word) (d : Byte) : Alu16 :=
  { result := sp + signExtend16 d
    flags :=
      { z := some false
        n := some false
        h := some (decide (sp.toNat % 0x10 + lowNibble d > 0x0F))
        c := some (decide (sp.toNat % 0x100 + d.toNat > 0xFF)) } }

/-! ## Decimal adjust -/

/-- Whether `daa` corrects the low digit (R172). -/
def daaLow (a : Byte) (n h : Bool) : Bool := h || (!n && decide (lowNibble a > 0x09))

/-- Whether `daa` corrects the high digit (R172). -/
def daaHigh (a : Byte) (n c : Bool) : Bool := c || (!n && decide (a.toNat > 0x99))

/-- `daa` (R172): both tests look at `a` before any adjustment; C is set, never cleared. -/
def daa (a : Byte) (n h c : Bool) : Alu8 :=
  let adj : Byte := (if daaLow a n h then 0x06 else 0) ||| (if daaHigh a n c then 0x60 else 0)
  let result := if n then a - adj else a + adj
  { result
    flags := { z := some (result == 0), n := none, h := some false, c := some (daaHigh a n c) } }

/-! ## Accumulator rotates -/

/-- A bit as the byte 0 or 1. -/
def bitByte (b : Bool) : Byte := if b then 1 else 0

/-- The flags of the four rotates (R177): Z = N = H = 0 "even when result is 0", C the bit moved out. -/
def rotateFlags (out : Bool) : FlagWrite :=
  { z := some false, n := some false, h := some false, c := some out }

/-- `rlc` (R177). -/
def rlc (a : Byte) : Alu8 :=
  { result := (a <<< 1) ||| bitByte (a.getLsbD 7), flags := rotateFlags (a.getLsbD 7) }

/-- `rrc` (R177). -/
def rrc (a : Byte) : Alu8 :=
  { result := (a >>> 1) ||| (bitByte (a.getLsbD 0) <<< 7), flags := rotateFlags (a.getLsbD 0) }

/-- `rl` (R177): through Carry. -/
def rl (a : Byte) (c : Bool) : Alu8 :=
  { result := (a <<< 1) ||| bitByte c, flags := rotateFlags (a.getLsbD 7) }

/-- `rr` (R177): through Carry. -/
def rr (a : Byte) (c : Bool) : Alu8 :=
  { result := (a >>> 1) ||| (bitByte c <<< 7), flags := rotateFlags (a.getLsbD 0) }

end Sys2Proof.Machine
end

