-- ==== Sys2Proof/Machine/Ops.lean ====
section
/-! DEFINITION. The named operations over registers, the stack and the instruction stream, the idle step,
the environment's transitions and the observation port.

There is no operation that takes an exception and none that returns from one: the block has neither
(60_exceptions.md R400, R404). -/

namespace Sys2Proof.Machine

/-! ## Registers and pairs -/

/-- `x[i]` read (00_scope.md R10). -/
def State.getReg (s : State) : Reg8 → Byte
  | .b => s.b
  | .c => s.c
  | .d => s.d
  | .e => s.e
  | .h => s.h
  | .l => s.l
  | .a => s.a

/-- `x[i] <- v` (00_scope.md R10). -/
def State.setReg (s : State) (r : Reg8) (v : Byte) : State :=
  match r with
  | .b => { s with b := v }
  | .c => { s with c := v }
  | .d => { s with d := v }
  | .e => { s with e := v }
  | .h => { s with h := v }
  | .l => { s with l := v }
  | .a => { s with a := v }

/-- `BC = {B, C}` (10_state.md R24). -/
def State.bc (s : State) : Word := word16 s.b s.c

/-- `DE = {D, E}` (R24). -/
def State.de (s : State) : Word := word16 s.d s.e

/-- `HL = {H, L}` (R24). -/
def State.hl (s : State) : Word := word16 s.h s.l

/-- `AF = {A, F}` (R25). -/
def State.af (s : State) : Word := word16 s.a s.f

/-- `BC <- v` (R24). -/
def State.setBc (s : State) (v : Word) : State := { s with b := hiByte v, c := loByte v }

/-- `DE <- v` (R24). -/
def State.setDe (s : State) (v : Word) : State := { s with d := hiByte v, e := loByte v }

/-- `HL <- v` (R24). -/
def State.setHl (s : State) (v : Word) : State := { s with h := hiByte v, l := loByte v }

/-- `AF <- v` (R25): "masks the low nibble of the low byte to zero". -/
def State.setAf (s : State) (v : Word) : State := { s with a := hiByte v, f := maskFlags (loByte v) }

/-- `rp[p]` read (30_encoding.md R105). -/
def State.getPair (s : State) : Pair → Word
  | .bc => s.bc
  | .de => s.de
  | .hl => s.hl
  | .sp => s.sp

/-- `rp[p] <- v` (R105). -/
def State.setPair (s : State) (p : Pair) (v : Word) : State :=
  match p with
  | .bc => s.setBc v
  | .de => s.setDe v
  | .hl => s.setHl v
  | .sp => { s with sp := v }

/-- `rp2[p]` read (R105). -/
def State.getStackPair (s : State) : StackPair → Word
  | .bc => s.bc
  | .de => s.de
  | .hl => s.hl
  | .af => s.af

/-- `rp2[p] <- v` (R105). -/
def State.setStackPair (s : State) (p : StackPair) (v : Word) : State :=
  match p with
  | .bc => s.setBc v
  | .de => s.setDe v
  | .hl => s.setHl v
  | .af => s.setAf v

/-- Write the listed flags (R27). -/
def State.writeFlags (s : State) (w : FlagWrite) : State := { s with f := w.apply s.f }

/-- `cycles += n` (00_scope.md R10, 40_step_sequencer.md R150). -/
def State.charge (s : State) (n : Nat) : State := { s with cycles := s.cycles + n }

/-- `PC <- target` (00_scope.md R10). -/
def State.jump (s : State) (target : Word) : State := { s with pc := target }

/-! ## The stack (46_stack_and_restart.md) -/

/-- `Push16(v)` (R314): the high byte first, at the higher address, then the low byte. -/
def State.push16 (s : State) (v : Word) : State :=
  let low := s.sp - 2
  (({ s with sp := low }).memWrite (low + 1) (hiByte v)).memWrite low (loByte v)

/-- The value `Pop16()` returns (R315): low byte at SP, high byte at SP + 1. -/
def State.top16 (s : State) : Word := word16 (s.readByte (s.sp + 1)) (s.readByte s.sp)

/-- The effect of `Pop16()` (R315): two reads, low then high, and SP + 2. -/
def State.dropTop (s : State) : State :=
  { (s.noteRead s.sp).noteRead (s.sp + 1) with sp := s.sp + 2 }

/-! ## The instruction stream (40_step_sequencer.md) -/

/-- The effect of `Fetch8()` (R143): one read at PC, and PC + 1 modulo 2^16 (10_state.md R32). The value is
`s.readByte s.pc`. -/
def State.fetch8 (s : State) : State := { s.noteRead s.pc with pc := s.pc + 1 }

/-- The opcode fetch (R142): as `Fetch8`, and `opcode` takes the byte. -/
def State.fetchOpcode (s : State) : State := { s.fetch8 with opcode := s.readByte s.pc }

/-- Read the operand bytes an entry takes, low byte first (R143, R144), and assemble the instruction. -/
def State.fetchOperand (s : State) : Entry → Instr × State
  | .op i => (i, s)
  | .opD8 build => (build (s.readByte s.pc), s.fetch8)
  | .opA8 build => (build (s.readByte s.pc), s.fetch8)
  | .opR8 build => (build (s.readByte s.pc), s.fetch8)
  | .opD16 build => (build (word16 (s.fetch8.readByte s.fetch8.pc) (s.readByte s.pc)), s.fetch8.fetch8)
  | .opA16 build => (build (word16 (s.fetch8.readByte s.fetch8.pc) (s.readByte s.pc)), s.fetch8.fetch8)

/-- Fetch, and select the handler (R142 to R145): the instruction at PC, and the state in which its handler
runs, with PC at the byte after it (10_state.md R30). -/
def State.fetchInstr (s : State) : Instr × State :=
  s.fetchOpcode.fetchOperand (handler (s.readByte s.pc))

/-- Start a step: no access of it has been made yet (assumption 8). -/
def State.beginStep (s : State) : State := { s with bus := [] }

/-- The idle step (R147): `cycles += 1`, no bus access, nothing else. -/
def State.idle (s : State) : State := s.beginStep.charge Cost.idle

/-! ## The environment, between steps -/

/-- `Wake()` (R153): clears `halted`, and nothing else. -/
def State.wake (s : State) : State := if s.halted then { s with halted := false } else s

/-- The `reset` input (R155, R440): CPU State takes its reset values, memory is untouched. -/
def State.assertReset (s : State) : State := { State.reset with mem := s.mem }

/-- What the observation port shows at an instruction boundary (60_exceptions.md R420). -/
structure Observation where
  a : Byte
  f : Byte
  b : Byte
  c : Byte
  d : Byte
  e : Byte
  h : Byte
  l : Byte
  z : Bool
  n : Bool
  halfCarry : Bool
  carry : Bool
  sp : Word
  pc : Word
  opcode : Byte
  cycles : Nat
  halted : Bool
deriving DecidableEq, Repr

/-- The observation port (R420). -/
def State.observe (s : State) : Observation where
  a := s.a
  f := s.f
  b := s.b
  c := s.c
  d := s.d
  e := s.e
  h := s.h
  l := s.l
  z := flagZ s.f
  n := flagN s.f
  halfCarry := flagH s.f
  carry := flagC s.f
  sp := s.sp
  pc := s.pc
  opcode := s.opcode
  cycles := s.cycles
  halted := s.halted

/-! ## Loading code from outside (assumption 15) -/

/-- The entry point after reset (70_reset_and_hazards.md R441). -/
def entryPoint : Word := 0x0100

/-- Whether `n` bytes from an address on all have a byte behind them. -/
def codeFits : Nat → Word → Bool
  | 0, _ => true
  | n + 1, addr => backedAt addr && codeFits n (addr + 1)

/-- Put bytes at consecutive addresses, as the loader of a cartridge image does: not a bus write, so the
ROM window takes them too. -/
def Memory.load : Memory → Word → List Byte → Memory
  | m, _, [] => m
  | m, addr, v :: rest => Memory.load (m.insert addr.toNat v) (addr + 1) rest

/-- Load code where the next step fetches: at PC, or, where PC has no bytes behind it, at the entry point
with PC there; a halted core does not fetch, so it is woken. -/
def State.loadCode (s : State) (code : List Byte) : State :=
  let start := if codeFits code.length s.pc then s.pc else entryPoint
  { s with pc := start, halted := false, mem := s.mem.load start code }

end Sys2Proof.Machine
end

