-- ==== Sys2Proof/Machine/Operands.lean ====
section
/-! DEFINITION. Operand forms: conditions, the addresses that memory operands stand for, and the accumulator
operations over any operand (30_encoding.md R104 to R107, R111 to R114; 44_arith_logic.md). -/

namespace Sys2Proof.Machine

/-- `cc` holds (R106), in the state before the instruction. -/
def State.condHolds (s : State) : Cond → Bool
  | .nz => !flagZ s.f
  | .z => flagZ s.f
  | .nc => !flagC s.f
  | .c => flagC s.f

/-- The high-page address `0xFF00 + zext_16(off)` of `a8` (R114) and of `(C)` (42_loads.md R215). -/
def highPage (off : Byte) : Word := 0xFF00 + zeroExtend16 off

/-- The restart target `zext_16(y * 8)` (R115). -/
def restartTarget (y : Fin 8) : Word := BitVec.ofNat 16 (y.val * 8)

/-- The accumulator operation of a code (R107): the new A and the flags. `CP` keeps A (R165). -/
def AluOp.run (op : AluOp) (a v : Byte) (c : Bool) : Alu8 :=
  match op with
  | .add => add8 a v
  | .adc => adc8 a v c
  | .sub => sub8 a v
  | .sbc => sbc8 a v c
  | .and => and8 a v
  | .xor => xor8 a v
  | .or => or8 a v
  | .cp => { result := a, flags := cp8 a v }

/-- Apply an 8-bit result to A and F; "all computed from A before the write" (R250). -/
def State.setAcc (s : State) (r : Alu8) : State := { s with a := r.result, f := r.flags.apply s.f }

/-- An accumulator operation on A and an operand value (10_state.md R22). -/
def State.accumulate (s : State) (op : AluOp) (v : Byte) : State :=
  s.setAcc (AluOp.run op s.a v (flagC s.f))

end Sys2Proof.Machine
end

