-- ==== Sys2Proof/Machine/Arith.lean ====
section
/-! DEFINITION. Arithmetic and logic on the accumulator, and `ADD HL,rr` (44_arith_logic.md R250 to R274). -/

namespace Sys2Proof.Machine

/-! ## Shared forms -/

/-- An accumulator operation with a register. -/
def aluReg (op : AluOp) (r : Reg8) (s : State) : State :=
  (s.accumulate op (s.getReg r)).charge Cost.aluReg

/-- An accumulator operation with the byte at HL: one data read. -/
def aluIndHl (op : AluOp) (s : State) : State :=
  ((s.noteRead s.hl).accumulate op (s.readByte s.hl)).charge Cost.aluIndHl

/-- An accumulator operation with an immediate byte. -/
def aluImm (op : AluOp) (v : Byte) (s : State) : State := (s.accumulate op v).charge Cost.aluD8

/-- `HL <- add16(HL, rp[p])` (R274): flags from HL before the write. -/
def addHl (p : Pair) (s : State) : State :=
  let out := add16 s.hl (s.getPair p)
  ((s.setHl out.result).writeFlags out.flags).charge Cost.addHl

/-! ## The meanings -/

/-- `ADD HL,BC`, opcode 0x09 (R274). -/
def execAddHlBc (s : State) : Result := .next (addHl .bc s)

/-- `ADD HL,DE`, opcode 0x19 (R274). -/
def execAddHlDe (s : State) : Result := .next (addHl .de s)

/-- `ADD HL,HL`, opcode 0x29 (R274). -/
def execAddHlHl (s : State) : Result := .next (addHl .hl s)

/-- `ADD HL,SP`, opcode 0x39 (R274). -/
def execAddHlSp (s : State) : Result := .next (addHl .sp s)

/-- `ADD A,B`, opcode 0x80 (R250). -/
def execAddAB (s : State) : Result := .next (aluReg .add .b s)

/-- `ADD A,C`, opcode 0x81 (R250). -/
def execAddAC (s : State) : Result := .next (aluReg .add .c s)

/-- `ADD A,D`, opcode 0x82 (R250). -/
def execAddAD (s : State) : Result := .next (aluReg .add .d s)

/-- `ADD A,E`, opcode 0x83 (R250). -/
def execAddAE (s : State) : Result := .next (aluReg .add .e s)

/-- `ADD A,H`, opcode 0x84 (R250). -/
def execAddAH (s : State) : Result := .next (aluReg .add .h s)

/-- `ADD A,L`, opcode 0x85 (R250). -/
def execAddAL (s : State) : Result := .next (aluReg .add .l s)

/-- `ADD A,(HL)`, opcode 0x86 (R251). -/
def execAddAIndHl (s : State) : Result := .next (aluIndHl .add s)

/-- `ADD A,A`, opcode 0x87 (R250). -/
def execAddAA (s : State) : Result := .next (aluReg .add .a s)

/-- `ADC A,B`, opcode 0x88 (R253). -/
def execAdcAB (s : State) : Result := .next (aluReg .adc .b s)

/-- `ADC A,C`, opcode 0x89 (R253). -/
def execAdcAC (s : State) : Result := .next (aluReg .adc .c s)

/-- `ADC A,D`, opcode 0x8A (R253). -/
def execAdcAD (s : State) : Result := .next (aluReg .adc .d s)

/-- `ADC A,E`, opcode 0x8B (R253). -/
def execAdcAE (s : State) : Result := .next (aluReg .adc .e s)

/-- `ADC A,H`, opcode 0x8C (R253). -/
def execAdcAH (s : State) : Result := .next (aluReg .adc .h s)

/-- `ADC A,L`, opcode 0x8D (R253). -/
def execAdcAL (s : State) : Result := .next (aluReg .adc .l s)

/-- `ADC A,(HL)`, opcode 0x8E (R254). -/
def execAdcAIndHl (s : State) : Result := .next (aluIndHl .adc s)

/-- `ADC A,A`, opcode 0x8F (R253). -/
def execAdcAA (s : State) : Result := .next (aluReg .adc .a s)

/-- `SUB B`, opcode 0x90 (R256). -/
def execSubB (s : State) : Result := .next (aluReg .sub .b s)

/-- `SUB C`, opcode 0x91 (R256). -/
def execSubC (s : State) : Result := .next (aluReg .sub .c s)

/-- `SUB D`, opcode 0x92 (R256). -/
def execSubD (s : State) : Result := .next (aluReg .sub .d s)

/-- `SUB E`, opcode 0x93 (R256). -/
def execSubE (s : State) : Result := .next (aluReg .sub .e s)

/-- `SUB H`, opcode 0x94 (R256). -/
def execSubH (s : State) : Result := .next (aluReg .sub .h s)

/-- `SUB L`, opcode 0x95 (R256). -/
def execSubL (s : State) : Result := .next (aluReg .sub .l s)

/-- `SUB (HL)`, opcode 0x96 (R257). -/
def execSubIndHl (s : State) : Result := .next (aluIndHl .sub s)

/-- `SUB A`, opcode 0x97 (R256). -/
def execSubA (s : State) : Result := .next (aluReg .sub .a s)

/-- `SBC A,B`, opcode 0x98 (R259). -/
def execSbcAB (s : State) : Result := .next (aluReg .sbc .b s)

/-- `SBC A,C`, opcode 0x99 (R259). -/
def execSbcAC (s : State) : Result := .next (aluReg .sbc .c s)

/-- `SBC A,D`, opcode 0x9A (R259). -/
def execSbcAD (s : State) : Result := .next (aluReg .sbc .d s)

/-- `SBC A,E`, opcode 0x9B (R259). -/
def execSbcAE (s : State) : Result := .next (aluReg .sbc .e s)

/-- `SBC A,H`, opcode 0x9C (R259). -/
def execSbcAH (s : State) : Result := .next (aluReg .sbc .h s)

/-- `SBC A,L`, opcode 0x9D (R259). -/
def execSbcAL (s : State) : Result := .next (aluReg .sbc .l s)

/-- `SBC A,(HL)`, opcode 0x9E (R260). -/
def execSbcAIndHl (s : State) : Result := .next (aluIndHl .sbc s)

/-- `SBC A,A`, opcode 0x9F (R259). -/
def execSbcAA (s : State) : Result := .next (aluReg .sbc .a s)

/-- `AND B`, opcode 0xA0 (R262). -/
def execAndB (s : State) : Result := .next (aluReg .and .b s)

/-- `AND C`, opcode 0xA1 (R262). -/
def execAndC (s : State) : Result := .next (aluReg .and .c s)

/-- `AND D`, opcode 0xA2 (R262). -/
def execAndD (s : State) : Result := .next (aluReg .and .d s)

/-- `AND E`, opcode 0xA3 (R262). -/
def execAndE (s : State) : Result := .next (aluReg .and .e s)

/-- `AND H`, opcode 0xA4 (R262). -/
def execAndH (s : State) : Result := .next (aluReg .and .h s)

/-- `AND L`, opcode 0xA5 (R262). -/
def execAndL (s : State) : Result := .next (aluReg .and .l s)

/-- `AND (HL)`, opcode 0xA6 (R263). -/
def execAndIndHl (s : State) : Result := .next (aluIndHl .and s)

/-- `AND A`, opcode 0xA7 (R262). -/
def execAndA (s : State) : Result := .next (aluReg .and .a s)

/-- `XOR B`, opcode 0xA8 (R265). -/
def execXorB (s : State) : Result := .next (aluReg .xor .b s)

/-- `XOR C`, opcode 0xA9 (R265). -/
def execXorC (s : State) : Result := .next (aluReg .xor .c s)

/-- `XOR D`, opcode 0xAA (R265). -/
def execXorD (s : State) : Result := .next (aluReg .xor .d s)

/-- `XOR E`, opcode 0xAB (R265). -/
def execXorE (s : State) : Result := .next (aluReg .xor .e s)

/-- `XOR H`, opcode 0xAC (R265). -/
def execXorH (s : State) : Result := .next (aluReg .xor .h s)

/-- `XOR L`, opcode 0xAD (R265). -/
def execXorL (s : State) : Result := .next (aluReg .xor .l s)

/-- `XOR (HL)`, opcode 0xAE (R266). -/
def execXorIndHl (s : State) : Result := .next (aluIndHl .xor s)

/-- `XOR A`, opcode 0xAF (R265). -/
def execXorA (s : State) : Result := .next (aluReg .xor .a s)

/-- `OR B`, opcode 0xB0 (R268). -/
def execOrB (s : State) : Result := .next (aluReg .or .b s)

/-- `OR C`, opcode 0xB1 (R268). -/
def execOrC (s : State) : Result := .next (aluReg .or .c s)

/-- `OR D`, opcode 0xB2 (R268). -/
def execOrD (s : State) : Result := .next (aluReg .or .d s)

/-- `OR E`, opcode 0xB3 (R268). -/
def execOrE (s : State) : Result := .next (aluReg .or .e s)

/-- `OR H`, opcode 0xB4 (R268). -/
def execOrH (s : State) : Result := .next (aluReg .or .h s)

/-- `OR L`, opcode 0xB5 (R268). -/
def execOrL (s : State) : Result := .next (aluReg .or .l s)

/-- `OR (HL)`, opcode 0xB6 (R269). -/
def execOrIndHl (s : State) : Result := .next (aluIndHl .or s)

/-- `OR A`, opcode 0xB7 (R268). -/
def execOrA (s : State) : Result := .next (aluReg .or .a s)

/-- `CP B`, opcode 0xB8 (R271). -/
def execCpB (s : State) : Result := .next (aluReg .cp .b s)

/-- `CP C`, opcode 0xB9 (R271). -/
def execCpC (s : State) : Result := .next (aluReg .cp .c s)

/-- `CP D`, opcode 0xBA (R271). -/
def execCpD (s : State) : Result := .next (aluReg .cp .d s)

/-- `CP E`, opcode 0xBB (R271). -/
def execCpE (s : State) : Result := .next (aluReg .cp .e s)

/-- `CP H`, opcode 0xBC (R271). -/
def execCpH (s : State) : Result := .next (aluReg .cp .h s)

/-- `CP L`, opcode 0xBD (R271). -/
def execCpL (s : State) : Result := .next (aluReg .cp .l s)

/-- `CP (HL)`, opcode 0xBE (R272). -/
def execCpIndHl (s : State) : Result := .next (aluIndHl .cp s)

/-- `CP A`, opcode 0xBF (R271). -/
def execCpA (s : State) : Result := .next (aluReg .cp .a s)

/-- `ADD A,d8`, opcode 0xC6 (R252). -/
def execAddAD8 (d8 : Byte) (s : State) : Result := .next (aluImm .add d8 s)

/-- `ADC A,d8`, opcode 0xCE (R255). -/
def execAdcAD8 (d8 : Byte) (s : State) : Result := .next (aluImm .adc d8 s)

/-- `SUB d8`, opcode 0xD6 (R258). -/
def execSubD8 (d8 : Byte) (s : State) : Result := .next (aluImm .sub d8 s)

/-- `SBC A,d8`, opcode 0xDE (R261). -/
def execSbcAD8 (d8 : Byte) (s : State) : Result := .next (aluImm .sbc d8 s)

/-- `AND d8`, opcode 0xE6 (R264). -/
def execAndD8 (d8 : Byte) (s : State) : Result := .next (aluImm .and d8 s)

/-- `XOR d8`, opcode 0xEE (R267). -/
def execXorD8 (d8 : Byte) (s : State) : Result := .next (aluImm .xor d8 s)

/-- `OR d8`, opcode 0xF6 (R270). -/
def execOrD8 (d8 : Byte) (s : State) : Result := .next (aluImm .or d8 s)

/-- `CP d8`, opcode 0xFE (R273). -/
def execCpD8 (d8 : Byte) (s : State) : Result := .next (aluImm .cp d8 s)

end Sys2Proof.Machine
end

