-- ==== Sys2Proof/Machine/FlagOps.lean ====
section
/-! DEFINITION. Flag and accumulator operations (47_flag_and_accumulator_ops.md R320 to R327). -/

namespace Sys2Proof.Machine

/-! ## Shared forms -/

/-- `SCF` (R320): Z is kept. -/
def setCarry (s : State) : State :=
  (s.writeFlags { z := none, n := some false, h := some false, c := some true }).charge Cost.flagOp

/-- `CCF` (R321): Z is kept, H is cleared. -/
def complementCarry (s : State) : State :=
  (s.writeFlags { z := none, n := some false, h := some false, c := some (!flagC s.f) }).charge Cost.flagOp

/-- `CPL` (R322): Z and C are kept. -/
def complementA (s : State) : State :=
  (s.setAcc
    { result := s.a ^^^ 0xFF
      flags := { z := none, n := some true, h := some true, c := none } }).charge Cost.flagOp

/-- Apply a result computed from A and the flags to A and F (R323 to R327). -/
def adjustA (out : Alu8) (s : State) : State := (s.setAcc out).charge Cost.flagOp

/-! ## The meanings -/

/-- `RLCA`, opcode 0x07 (R324). -/
def execRlca (s : State) : Result := .next (adjustA (rlc s.a) s)

/-- `RRCA`, opcode 0x0F (R325). -/
def execRrca (s : State) : Result := .next (adjustA (rrc s.a) s)

/-- `RLA`, opcode 0x17 (R326). -/
def execRla (s : State) : Result := .next (adjustA (rl s.a (flagC s.f)) s)

/-- `RRA`, opcode 0x1F (R327). -/
def execRra (s : State) : Result := .next (adjustA (rr s.a (flagC s.f)) s)

/-- `DAA`, opcode 0x27 (R323). -/
def execDaa (s : State) : Result := .next (adjustA (daa s.a (flagN s.f) (flagH s.f) (flagC s.f)) s)

/-- `CPL`, opcode 0x2F (R322). -/
def execCpl (s : State) : Result := .next (complementA s)

/-- `SCF`, opcode 0x37 (R320). -/
def execScf (s : State) : Result := .next (setCarry s)

/-- `CCF`, opcode 0x3F (R321). -/
def execCcf (s : State) : Result := .next (complementCarry s)

end Sys2Proof.Machine
end

