-- ==== Sys2Proof/Machine/IncDec.lean ====
section
/-! DEFINITION. Increment and decrement (43_incdec.md R240 to R245). -/

namespace Sys2Proof.Machine

/-! ## Shared forms -/

/-- `x[y] <- inc8(x[y])` or `dec8` (R240, R241): C is not written. -/
def stepReg (op : Byte → Alu8) (r : Reg8) (s : State) : State :=
  let out := op (s.getReg r)
  ((s.setReg r out.result).writeFlags out.flags).charge Cost.incDecReg

/-- Read, write back and flag the byte at HL (R242, R243): "The flags come from the value read, whatever
happens to the write". -/
def stepIndHl (op : Byte → Alu8) (s : State) : State :=
  let out := op (s.readByte s.hl)
  (((s.noteRead s.hl).memWrite s.hl out.result).writeFlags out.flags).charge Cost.incDecIndHl

/-- `rp[p] <- inc16(rp[p])` or `dec16` (R244, R245): no flag. -/
def stepPair (op : Word → Word) (p : Pair) (s : State) : State :=
  (s.setPair p (op (s.getPair p))).charge Cost.incDecPair

/-! ## The meanings -/

/-- `INC BC`, opcode 0x03 (R244). -/
def execIncBc (s : State) : Result := .next (stepPair inc16 .bc s)

/-- `INC B`, opcode 0x04 (R240). -/
def execIncB (s : State) : Result := .next (stepReg inc8 .b s)

/-- `DEC B`, opcode 0x05 (R241). -/
def execDecB (s : State) : Result := .next (stepReg dec8 .b s)

/-- `DEC BC`, opcode 0x0B (R245). -/
def execDecBc (s : State) : Result := .next (stepPair dec16 .bc s)

/-- `INC C`, opcode 0x0C (R240). -/
def execIncC (s : State) : Result := .next (stepReg inc8 .c s)

/-- `DEC C`, opcode 0x0D (R241). -/
def execDecC (s : State) : Result := .next (stepReg dec8 .c s)

/-- `INC DE`, opcode 0x13 (R244). -/
def execIncDe (s : State) : Result := .next (stepPair inc16 .de s)

/-- `INC D`, opcode 0x14 (R240). -/
def execIncD (s : State) : Result := .next (stepReg inc8 .d s)

/-- `DEC D`, opcode 0x15 (R241). -/
def execDecD (s : State) : Result := .next (stepReg dec8 .d s)

/-- `DEC DE`, opcode 0x1B (R245). -/
def execDecDe (s : State) : Result := .next (stepPair dec16 .de s)

/-- `INC E`, opcode 0x1C (R240). -/
def execIncE (s : State) : Result := .next (stepReg inc8 .e s)

/-- `DEC E`, opcode 0x1D (R241). -/
def execDecE (s : State) : Result := .next (stepReg dec8 .e s)

/-- `INC HL`, opcode 0x23 (R244). -/
def execIncHl (s : State) : Result := .next (stepPair inc16 .hl s)

/-- `INC H`, opcode 0x24 (R240). -/
def execIncH (s : State) : Result := .next (stepReg inc8 .h s)

/-- `DEC H`, opcode 0x25 (R241). -/
def execDecH (s : State) : Result := .next (stepReg dec8 .h s)

/-- `DEC HL`, opcode 0x2B (R245). -/
def execDecHl (s : State) : Result := .next (stepPair dec16 .hl s)

/-- `INC L`, opcode 0x2C (R240). -/
def execIncL (s : State) : Result := .next (stepReg inc8 .l s)

/-- `DEC L`, opcode 0x2D (R241). -/
def execDecL (s : State) : Result := .next (stepReg dec8 .l s)

/-- `INC SP`, opcode 0x33 (R244). -/
def execIncSp (s : State) : Result := .next (stepPair inc16 .sp s)

/-- `INC (HL)`, opcode 0x34 (R242). -/
def execIncIndHl (s : State) : Result := .next (stepIndHl inc8 s)

/-- `DEC (HL)`, opcode 0x35 (R243). -/
def execDecIndHl (s : State) : Result := .next (stepIndHl dec8 s)

/-- `DEC SP`, opcode 0x3B (R245). -/
def execDecSp (s : State) : Result := .next (stepPair dec16 .sp s)

/-- `INC A`, opcode 0x3C (R240). -/
def execIncA (s : State) : Result := .next (stepReg inc8 .a s)

/-- `DEC A`, opcode 0x3D (R241). -/
def execDecA (s : State) : Result := .next (stepReg dec8 .a s)

end Sys2Proof.Machine
end

