-- ==== Sys2Proof/Machine/Jumps.lean ====
section
/-! DEFINITION. Jumps, calls and returns (45_jumps_calls_returns.md R290 to R299). PC already points at the byte
after the instruction, operands included, when a meaning runs (10_state.md R30). -/

namespace Sys2Proof.Machine

/-! ## Shared forms -/

/-- `PC <- (PC + sext_16(d)) mod 65536` (R290). -/
def addToPc (d : Byte) (s : State) : State := s.jump (s.pc + signExtend16 d)

/-- `Push16(PC); PC <- t` (R295). -/
def callTo (t : Word) (s : State) : State := (s.push16 s.pc).jump t

/-- `PC <- Pop16()` (R297). -/
def popPc (s : State) : State := s.dropTop.jump s.top16

/-- `JR r8` (R290). -/
def jumpRelative (d : Byte) (s : State) : State := (addToPc d s).charge Cost.jrTaken

/-- `JR cc,r8` (R291). -/
def jumpRelativeIf (cc : Cond) (d : Byte) (s : State) : State :=
  if s.condHolds cc then (addToPc d s).charge Cost.jrTaken else s.charge Cost.jrNotTaken

/-- `JP a16` (R292). -/
def jumpAbsolute (t : Word) (s : State) : State := (s.jump t).charge Cost.jpTaken

/-- `JP cc,a16` (R293). -/
def jumpAbsoluteIf (cc : Cond) (t : Word) (s : State) : State :=
  if s.condHolds cc then (s.jump t).charge Cost.jpTaken else s.charge Cost.jpNotTaken

/-- `JP HL` (R294): no memory is read. -/
def jumpHl (s : State) : State := (s.jump s.hl).charge Cost.jpHl

/-- `CALL a16` (R295). -/
def callAbsolute (t : Word) (s : State) : State := (callTo t s).charge Cost.callTaken

/-- `CALL cc,a16` (R296). -/
def callAbsoluteIf (cc : Cond) (t : Word) (s : State) : State :=
  if s.condHolds cc then (callTo t s).charge Cost.callTaken else s.charge Cost.callNotTaken

/-- `RET` (R297), and `RETI`, "exactly that of `RET`" (R299, decision D6). -/
def returnFromCall (s : State) : State := (popPc s).charge Cost.ret

/-- `RET cc` (R298). -/
def returnIf (cc : Cond) (s : State) : State :=
  if s.condHolds cc then (popPc s).charge Cost.retCondTaken else s.charge Cost.retCondNotTaken

/-! ## The meanings -/

/-- `JR r8`, opcode 0x18 (R290). -/
def execJrR8 (r8 : Byte) (s : State) : Result := .next (jumpRelative r8 s)

/-- `JR NZ,r8`, opcode 0x20 (R291). -/
def execJrNzR8 (r8 : Byte) (s : State) : Result := .next (jumpRelativeIf .nz r8 s)

/-- `JR Z,r8`, opcode 0x28 (R291). -/
def execJrZR8 (r8 : Byte) (s : State) : Result := .next (jumpRelativeIf .z r8 s)

/-- `JR NC,r8`, opcode 0x30 (R291). -/
def execJrNcR8 (r8 : Byte) (s : State) : Result := .next (jumpRelativeIf .nc r8 s)

/-- `JR C,r8`, opcode 0x38 (R291). -/
def execJrCR8 (r8 : Byte) (s : State) : Result := .next (jumpRelativeIf .c r8 s)

/-- `RET NZ`, opcode 0xC0 (R298). -/
def execRetNz (s : State) : Result := .next (returnIf .nz s)

/-- `JP NZ,a16`, opcode 0xC2 (R293). -/
def execJpNzA16 (a16 : Word) (s : State) : Result := .next (jumpAbsoluteIf .nz a16 s)

/-- `JP a16`, opcode 0xC3 (R292). -/
def execJpA16 (a16 : Word) (s : State) : Result := .next (jumpAbsolute a16 s)

/-- `CALL NZ,a16`, opcode 0xC4 (R296). -/
def execCallNzA16 (a16 : Word) (s : State) : Result := .next (callAbsoluteIf .nz a16 s)

/-- `RET Z`, opcode 0xC8 (R298). -/
def execRetZ (s : State) : Result := .next (returnIf .z s)

/-- `RET`, opcode 0xC9 (R297). -/
def execRet (s : State) : Result := .next (returnFromCall s)

/-- `JP Z,a16`, opcode 0xCA (R293). -/
def execJpZA16 (a16 : Word) (s : State) : Result := .next (jumpAbsoluteIf .z a16 s)

/-- `CALL Z,a16`, opcode 0xCC (R296). -/
def execCallZA16 (a16 : Word) (s : State) : Result := .next (callAbsoluteIf .z a16 s)

/-- `CALL a16`, opcode 0xCD (R295). -/
def execCallA16 (a16 : Word) (s : State) : Result := .next (callAbsolute a16 s)

/-- `RET NC`, opcode 0xD0 (R298). -/
def execRetNc (s : State) : Result := .next (returnIf .nc s)

/-- `JP NC,a16`, opcode 0xD2 (R293). -/
def execJpNcA16 (a16 : Word) (s : State) : Result := .next (jumpAbsoluteIf .nc a16 s)

/-- `CALL NC,a16`, opcode 0xD4 (R296). -/
def execCallNcA16 (a16 : Word) (s : State) : Result := .next (callAbsoluteIf .nc a16 s)

/-- `RET C`, opcode 0xD8 (R298). -/
def execRetC (s : State) : Result := .next (returnIf .c s)

/-- `RETI`, opcode 0xD9 (R299). -/
def execReti (s : State) : Result := .next (returnFromCall s)

/-- `JP C,a16`, opcode 0xDA (R293). -/
def execJpCA16 (a16 : Word) (s : State) : Result := .next (jumpAbsoluteIf .c a16 s)

/-- `CALL C,a16`, opcode 0xDC (R296). -/
def execCallCA16 (a16 : Word) (s : State) : Result := .next (callAbsoluteIf .c a16 s)

/-- `JP HL`, opcode 0xE9 (R294). -/
def execJpHl (s : State) : Result := .next (jumpHl s)

end Sys2Proof.Machine
end

