-- ==== Sys2Proof/Machine/Loads.lean ====
section
/-! DEFINITION. The load instructions (42_loads.md R200 to R219): pure data movement, no flag written. -/

namespace Sys2Proof.Machine

/-! ## Shared forms -/

/-- `x[y] <- x[z]` (R200). -/
def loadRegReg (dst src : Reg8) (s : State) : State :=
  (s.setReg dst (s.getReg src)).charge Cost.ldRegReg

/-- Load a register from the byte at an address (R201, R205, R207, R213, R215); the address is formed before
the destination is written. -/
def loadRegFrom (dst : Reg8) (addr : Word) (cost : Nat) (s : State) : State :=
  ((s.noteRead addr).setReg dst (s.readByte addr)).charge cost

/-- `x[y] <- d8` (R203). -/
def loadRegImm (dst : Reg8) (v : Byte) (s : State) : State := (s.setReg dst v).charge Cost.ldRegD8

/-- Store a byte at an address (R202, R204, R206, R208, R214, R216). -/
def storeByte (addr : Word) (v : Byte) (cost : Nat) (s : State) : State := (s.memWrite addr v).charge cost

/-- Load A from the byte at HL, then move HL (R209, R210). -/
def loadAPost (newHl : Word) (s : State) : State :=
  (((s.noteRead s.hl).setReg .a (s.readByte s.hl)).setHl newHl).charge Cost.ldPostModified

/-- Store A to the byte at HL, then move HL, whether or not the write was stored (R211, R212). -/
def storeAPost (newHl : Word) (s : State) : State :=
  ((s.memWrite s.hl s.a).setHl newHl).charge Cost.ldPostModified

/-- `rp[p] <- d16` (R217). -/
def loadPairImm (p : Pair) (v : Word) (s : State) : State := (s.setPair p v).charge Cost.ldPairD16

/-- `SP <- HL` (R218). -/
def loadSpFromHl (s : State) : State := (s.setPair .sp s.hl).charge Cost.ldSpHl

/-- The two byte writes of `LD (a16),SP` (R219): the low byte first, at the lower address. -/
def storeSp (addr : Word) (s : State) : State :=
  ((s.memWrite addr (loByte s.sp)).memWrite (addr + 1) (hiByte s.sp)).charge Cost.ldIndA16Sp

/-! ## The meanings -/

/-- `LD BC,d16`, opcode 0x01 (R217). -/
def execLdBcD16 (d16 : Word) (s : State) : Result := .next (loadPairImm .bc d16 s)

/-- `LD (BC),A`, opcode 0x02 (R206). -/
def execLdIndBcA (s : State) : Result := .next (storeByte s.bc s.a Cost.ldIndPair s)

/-- `LD B,d8`, opcode 0x06 (R203). -/
def execLdBD8 (d8 : Byte) (s : State) : Result := .next (loadRegImm .b d8 s)

/-- `LD (a16),SP`, opcode 0x08 (R219). -/
def execLdIndA16Sp (a16 : Word) (s : State) : Result := .next (storeSp a16 s)

/-- `LD A,(BC)`, opcode 0x0A (R205). -/
def execLdAIndBc (s : State) : Result := .next (loadRegFrom .a s.bc Cost.ldIndPair s)

/-- `LD C,d8`, opcode 0x0E (R203). -/
def execLdCD8 (d8 : Byte) (s : State) : Result := .next (loadRegImm .c d8 s)

/-- `LD DE,d16`, opcode 0x11 (R217). -/
def execLdDeD16 (d16 : Word) (s : State) : Result := .next (loadPairImm .de d16 s)

/-- `LD (DE),A`, opcode 0x12 (R206). -/
def execLdIndDeA (s : State) : Result := .next (storeByte s.de s.a Cost.ldIndPair s)

/-- `LD D,d8`, opcode 0x16 (R203). -/
def execLdDD8 (d8 : Byte) (s : State) : Result := .next (loadRegImm .d d8 s)

/-- `LD A,(DE)`, opcode 0x1A (R205). -/
def execLdAIndDe (s : State) : Result := .next (loadRegFrom .a s.de Cost.ldIndPair s)

/-- `LD E,d8`, opcode 0x1E (R203). -/
def execLdED8 (d8 : Byte) (s : State) : Result := .next (loadRegImm .e d8 s)

/-- `LD HL,d16`, opcode 0x21 (R217). -/
def execLdHlD16 (d16 : Word) (s : State) : Result := .next (loadPairImm .hl d16 s)

/-- `LD (HL+),A`, opcode 0x22 (R211). -/
def execLdIndHlIncA (s : State) : Result := .next (storeAPost (inc16 s.hl) s)

/-- `LD H,d8`, opcode 0x26 (R203). -/
def execLdHD8 (d8 : Byte) (s : State) : Result := .next (loadRegImm .h d8 s)

/-- `LD A,(HL+)`, opcode 0x2A (R209). -/
def execLdAIndHlInc (s : State) : Result := .next (loadAPost (inc16 s.hl) s)

/-- `LD L,d8`, opcode 0x2E (R203). -/
def execLdLD8 (d8 : Byte) (s : State) : Result := .next (loadRegImm .l d8 s)

/-- `LD SP,d16`, opcode 0x31 (R217). -/
def execLdSpD16 (d16 : Word) (s : State) : Result := .next (loadPairImm .sp d16 s)

/-- `LD (HL-),A`, opcode 0x32 (R212). -/
def execLdIndHlDecA (s : State) : Result := .next (storeAPost (dec16 s.hl) s)

/-- `LD (HL),d8`, opcode 0x36 (R204). -/
def execLdIndHlD8 (d8 : Byte) (s : State) : Result := .next (storeByte s.hl d8 Cost.ldIndHlD8 s)

/-- `LD A,(HL-)`, opcode 0x3A (R210). -/
def execLdAIndHlDec (s : State) : Result := .next (loadAPost (dec16 s.hl) s)

/-- `LD A,d8`, opcode 0x3E (R203). -/
def execLdAD8 (d8 : Byte) (s : State) : Result := .next (loadRegImm .a d8 s)

/-- `LD B,B`, opcode 0x40 (R200). -/
def execLdBB (s : State) : Result := .next (loadRegReg .b .b s)

/-- `LD B,C`, opcode 0x41 (R200). -/
def execLdBC (s : State) : Result := .next (loadRegReg .b .c s)

/-- `LD B,D`, opcode 0x42 (R200). -/
def execLdBD (s : State) : Result := .next (loadRegReg .b .d s)

/-- `LD B,E`, opcode 0x43 (R200). -/
def execLdBE (s : State) : Result := .next (loadRegReg .b .e s)

/-- `LD B,H`, opcode 0x44 (R200). -/
def execLdBH (s : State) : Result := .next (loadRegReg .b .h s)

/-- `LD B,L`, opcode 0x45 (R200). -/
def execLdBL (s : State) : Result := .next (loadRegReg .b .l s)

/-- `LD B,(HL)`, opcode 0x46 (R201). -/
def execLdBIndHl (s : State) : Result := .next (loadRegFrom .b s.hl Cost.ldRegIndHl s)

/-- `LD B,A`, opcode 0x47 (R200). -/
def execLdBA (s : State) : Result := .next (loadRegReg .b .a s)

/-- `LD C,B`, opcode 0x48 (R200). -/
def execLdCB (s : State) : Result := .next (loadRegReg .c .b s)

/-- `LD C,C`, opcode 0x49 (R200). -/
def execLdCC (s : State) : Result := .next (loadRegReg .c .c s)

/-- `LD C,D`, opcode 0x4A (R200). -/
def execLdCD (s : State) : Result := .next (loadRegReg .c .d s)

/-- `LD C,E`, opcode 0x4B (R200). -/
def execLdCE (s : State) : Result := .next (loadRegReg .c .e s)

/-- `LD C,H`, opcode 0x4C (R200). -/
def execLdCH (s : State) : Result := .next (loadRegReg .c .h s)

/-- `LD C,L`, opcode 0x4D (R200). -/
def execLdCL (s : State) : Result := .next (loadRegReg .c .l s)

/-- `LD C,(HL)`, opcode 0x4E (R201). -/
def execLdCIndHl (s : State) : Result := .next (loadRegFrom .c s.hl Cost.ldRegIndHl s)

/-- `LD C,A`, opcode 0x4F (R200). -/
def execLdCA (s : State) : Result := .next (loadRegReg .c .a s)

/-- `LD D,B`, opcode 0x50 (R200). -/
def execLdDB (s : State) : Result := .next (loadRegReg .d .b s)

/-- `LD D,C`, opcode 0x51 (R200). -/
def execLdDC (s : State) : Result := .next (loadRegReg .d .c s)

/-- `LD D,D`, opcode 0x52 (R200). -/
def execLdDD (s : State) : Result := .next (loadRegReg .d .d s)

/-- `LD D,E`, opcode 0x53 (R200). -/
def execLdDE (s : State) : Result := .next (loadRegReg .d .e s)

/-- `LD D,H`, opcode 0x54 (R200). -/
def execLdDH (s : State) : Result := .next (loadRegReg .d .h s)

/-- `LD D,L`, opcode 0x55 (R200). -/
def execLdDL (s : State) : Result := .next (loadRegReg .d .l s)

/-- `LD D,(HL)`, opcode 0x56 (R201). -/
def execLdDIndHl (s : State) : Result := .next (loadRegFrom .d s.hl Cost.ldRegIndHl s)

/-- `LD D,A`, opcode 0x57 (R200). -/
def execLdDA (s : State) : Result := .next (loadRegReg .d .a s)

/-- `LD E,B`, opcode 0x58 (R200). -/
def execLdEB (s : State) : Result := .next (loadRegReg .e .b s)

/-- `LD E,C`, opcode 0x59 (R200). -/
def execLdEC (s : State) : Result := .next (loadRegReg .e .c s)

/-- `LD E,D`, opcode 0x5A (R200). -/
def execLdED (s : State) : Result := .next (loadRegReg .e .d s)

/-- `LD E,E`, opcode 0x5B (R200). -/
def execLdEE (s : State) : Result := .next (loadRegReg .e .e s)

/-- `LD E,H`, opcode 0x5C (R200). -/
def execLdEH (s : State) : Result := .next (loadRegReg .e .h s)

/-- `LD E,L`, opcode 0x5D (R200). -/
def execLdEL (s : State) : Result := .next (loadRegReg .e .l s)

/-- `LD E,(HL)`, opcode 0x5E (R201). -/
def execLdEIndHl (s : State) : Result := .next (loadRegFrom .e s.hl Cost.ldRegIndHl s)

/-- `LD E,A`, opcode 0x5F (R200). -/
def execLdEA (s : State) : Result := .next (loadRegReg .e .a s)

/-- `LD H,B`, opcode 0x60 (R200). -/
def execLdHB (s : State) : Result := .next (loadRegReg .h .b s)

/-- `LD H,C`, opcode 0x61 (R200). -/
def execLdHC (s : State) : Result := .next (loadRegReg .h .c s)

/-- `LD H,D`, opcode 0x62 (R200). -/
def execLdHD (s : State) : Result := .next (loadRegReg .h .d s)

/-- `LD H,E`, opcode 0x63 (R200). -/
def execLdHE (s : State) : Result := .next (loadRegReg .h .e s)

/-- `LD H,H`, opcode 0x64 (R200). -/
def execLdHH (s : State) : Result := .next (loadRegReg .h .h s)

/-- `LD H,L`, opcode 0x65 (R200). -/
def execLdHL (s : State) : Result := .next (loadRegReg .h .l s)

/-- `LD H,(HL)`, opcode 0x66 (R201). -/
def execLdHIndHl (s : State) : Result := .next (loadRegFrom .h s.hl Cost.ldRegIndHl s)

/-- `LD H,A`, opcode 0x67 (R200). -/
def execLdHA (s : State) : Result := .next (loadRegReg .h .a s)

/-- `LD L,B`, opcode 0x68 (R200). -/
def execLdLB (s : State) : Result := .next (loadRegReg .l .b s)

/-- `LD L,C`, opcode 0x69 (R200). -/
def execLdLC (s : State) : Result := .next (loadRegReg .l .c s)

/-- `LD L,D`, opcode 0x6A (R200). -/
def execLdLD (s : State) : Result := .next (loadRegReg .l .d s)

/-- `LD L,E`, opcode 0x6B (R200). -/
def execLdLE (s : State) : Result := .next (loadRegReg .l .e s)

/-- `LD L,H`, opcode 0x6C (R200). -/
def execLdLH (s : State) : Result := .next (loadRegReg .l .h s)

/-- `LD L,L`, opcode 0x6D (R200). -/
def execLdLL (s : State) : Result := .next (loadRegReg .l .l s)

/-- `LD L,(HL)`, opcode 0x6E (R201). -/
def execLdLIndHl (s : State) : Result := .next (loadRegFrom .l s.hl Cost.ldRegIndHl s)

/-- `LD L,A`, opcode 0x6F (R200). -/
def execLdLA (s : State) : Result := .next (loadRegReg .l .a s)

/-- `LD (HL),B`, opcode 0x70 (R202). -/
def execLdIndHlB (s : State) : Result := .next (storeByte s.hl s.b Cost.ldIndHlReg s)

/-- `LD (HL),C`, opcode 0x71 (R202). -/
def execLdIndHlC (s : State) : Result := .next (storeByte s.hl s.c Cost.ldIndHlReg s)

/-- `LD (HL),D`, opcode 0x72 (R202). -/
def execLdIndHlD (s : State) : Result := .next (storeByte s.hl s.d Cost.ldIndHlReg s)

/-- `LD (HL),E`, opcode 0x73 (R202). -/
def execLdIndHlE (s : State) : Result := .next (storeByte s.hl s.e Cost.ldIndHlReg s)

/-- `LD (HL),H`, opcode 0x74 (R202). -/
def execLdIndHlH (s : State) : Result := .next (storeByte s.hl s.h Cost.ldIndHlReg s)

/-- `LD (HL),L`, opcode 0x75 (R202). -/
def execLdIndHlL (s : State) : Result := .next (storeByte s.hl s.l Cost.ldIndHlReg s)

/-- `LD (HL),A`, opcode 0x77 (R202). -/
def execLdIndHlA (s : State) : Result := .next (storeByte s.hl s.a Cost.ldIndHlReg s)

/-- `LD A,B`, opcode 0x78 (R200). -/
def execLdAB (s : State) : Result := .next (loadRegReg .a .b s)

/-- `LD A,C`, opcode 0x79 (R200). -/
def execLdAC (s : State) : Result := .next (loadRegReg .a .c s)

/-- `LD A,D`, opcode 0x7A (R200). -/
def execLdAD (s : State) : Result := .next (loadRegReg .a .d s)

/-- `LD A,E`, opcode 0x7B (R200). -/
def execLdAE (s : State) : Result := .next (loadRegReg .a .e s)

/-- `LD A,H`, opcode 0x7C (R200). -/
def execLdAH (s : State) : Result := .next (loadRegReg .a .h s)

/-- `LD A,L`, opcode 0x7D (R200). -/
def execLdAL (s : State) : Result := .next (loadRegReg .a .l s)

/-- `LD A,(HL)`, opcode 0x7E (R201). -/
def execLdAIndHl (s : State) : Result := .next (loadRegFrom .a s.hl Cost.ldRegIndHl s)

/-- `LD A,A`, opcode 0x7F (R200). -/
def execLdAA (s : State) : Result := .next (loadRegReg .a .a s)

/-- `LDH (a8),A`, opcode 0xE0 (R214). -/
def execLdhIndA8A (a8 : Byte) (s : State) : Result := .next (storeByte (highPage a8) s.a Cost.ldh s)

/-- `LD (C),A`, opcode 0xE2 (R216). -/
def execLdIndCA (s : State) : Result := .next (storeByte (highPage s.c) s.a Cost.ldIndC s)

/-- `LD (a16),A`, opcode 0xEA (R208). -/
def execLdIndA16A (a16 : Word) (s : State) : Result := .next (storeByte a16 s.a Cost.ldAbsolute s)

/-- `LDH A,(a8)`, opcode 0xF0 (R213). -/
def execLdhAIndA8 (a8 : Byte) (s : State) : Result := .next (loadRegFrom .a (highPage a8) Cost.ldh s)

/-- `LD A,(C)`, opcode 0xF2 (R215). -/
def execLdAIndC (s : State) : Result := .next (loadRegFrom .a (highPage s.c) Cost.ldIndC s)

/-- `LD SP,HL`, opcode 0xF9 (R218). -/
def execLdSpHl (s : State) : Result := .next (loadSpFromHl s)

/-- `LD A,(a16)`, opcode 0xFA (R207). -/
def execLdAIndA16 (a16 : Word) (s : State) : Result := .next (loadRegFrom .a a16 Cost.ldAbsolute s)

end Sys2Proof.Machine
end

