-- ==== Sys2Proof/Machine/SpRelative.lean ====
section
/-! DEFINITION. The two stack-pointer-relative instructions (49_sp_relative.md R360, R361). -/

namespace Sys2Proof.Machine

/-! ## Shared forms -/

/-- `HL <- SP + r8` with the flags of `addsp` (R360); SP is not changed. -/
def loadHlSpPlus (d : Byte) (s : State) : State :=
  let out := addsp s.sp d
  ((s.setHl out.result).writeFlags out.flags).charge Cost.ldHlSp

/-- `SP <- SP + r8` with the flags of `addsp` (R361), from SP before the write. -/
def addToSp (d : Byte) (s : State) : State :=
  let out := addsp s.sp d
  ((s.setPair .sp out.result).writeFlags out.flags).charge Cost.addSp

/-! ## The meanings -/

/-- `ADD SP,r8`, opcode 0xE8 (R361). -/
def execAddSpR8 (r8 : Byte) (s : State) : Result := .next (addToSp r8 s)

/-- `LD HL,SP+r8`, opcode 0xF8 (R360). -/
def execLdHlSpR8 (r8 : Byte) (s : State) : Result := .next (loadHlSpPlus r8 s)

end Sys2Proof.Machine
end

