-- ==== Sys2Proof/Machine/Stack.lean ====
section
/-! DEFINITION. `PUSH`, `POP` and `RST` (46_stack_and_restart.md R310 to R313). -/

namespace Sys2Proof.Machine

/-! ## Shared forms -/

/-- `Push16(rp2[p])` (R310). -/
def pushPair (p : StackPair) (s : State) : State := (s.push16 (s.getStackPair p)).charge Cost.push

/-- `rp2[p] <- Pop16()` (R311); for AF the low nibble of F is cleared (R312). -/
def popPair (p : StackPair) (s : State) : State := (s.dropTop.setStackPair p s.top16).charge Cost.pop

/-- `Push16(PC); PC <- zext_16(8 * y)` (R313). -/
def restart (y : Fin 8) (s : State) : State :=
  ((s.push16 s.pc).jump (restartTarget y)).charge Cost.rst

/-! ## The meanings -/

/-- `POP BC`, opcode 0xC1 (R311). -/
def execPopBc (s : State) : Result := .next (popPair .bc s)

/-- `PUSH BC`, opcode 0xC5 (R310). -/
def execPushBc (s : State) : Result := .next (pushPair .bc s)

/-- `RST 00H`, opcode 0xC7 (R313). -/
def execRst00H (s : State) : Result := .next (restart 0 s)

/-- `RST 08H`, opcode 0xCF (R313). -/
def execRst08H (s : State) : Result := .next (restart 1 s)

/-- `POP DE`, opcode 0xD1 (R311). -/
def execPopDe (s : State) : Result := .next (popPair .de s)

/-- `PUSH DE`, opcode 0xD5 (R310). -/
def execPushDe (s : State) : Result := .next (pushPair .de s)

/-- `RST 10H`, opcode 0xD7 (R313). -/
def execRst10H (s : State) : Result := .next (restart 2 s)

/-- `RST 18H`, opcode 0xDF (R313). -/
def execRst18H (s : State) : Result := .next (restart 3 s)

/-- `POP HL`, opcode 0xE1 (R311). -/
def execPopHl (s : State) : Result := .next (popPair .hl s)

/-- `PUSH HL`, opcode 0xE5 (R310). -/
def execPushHl (s : State) : Result := .next (pushPair .hl s)

/-- `RST 20H`, opcode 0xE7 (R313). -/
def execRst20H (s : State) : Result := .next (restart 4 s)

/-- `RST 28H`, opcode 0xEF (R313). -/
def execRst28H (s : State) : Result := .next (restart 5 s)

/-- `POP AF`, opcode 0xF1 (R312). -/
def execPopAf (s : State) : Result := .next (popPair .af s)

/-- `PUSH AF`, opcode 0xF5 (R310). -/
def execPushAf (s : State) : Result := .next (pushPair .af s)

/-- `RST 30H`, opcode 0xF7 (R313). -/
def execRst30H (s : State) : Result := .next (restart 6 s)

/-- `RST 38H`, opcode 0xFF (R313). -/
def execRst38H (s : State) : Result := .next (restart 7 s)

end Sys2Proof.Machine
end

