-- ==== Sys2Proof/Machine/System.lean ====
section
/-! DEFINITION. `NOP`, `HALT`, the stubbed system opcodes and the undefined slots (48_halt_and_system.md R340 to
R346). -/

namespace Sys2Proof.Machine

/-! ## Shared forms -/

/-- The no-op handler: only `cycles` changes (R340, R342 to R346). -/
def noOperation (cost : Nat) (s : State) : State := s.charge cost

/-- `halted <- true` (R341); PC stays at the byte after the `HALT`. -/
def enterHalted (s : State) : State := ({ s with halted := true } : State).charge Cost.halt

/-! ## The meanings -/

/-- `NOP`, opcode 0x00 (R340). -/
def execNop (s : State) : Result := .next (noOperation Cost.nop s)

/-- `STOP`, opcode 0x10 (R342). -/
def execStop (s : State) : Result := .next (noOperation Cost.stub s)

/-- `HALT`, opcode 0x76 (R341). -/
def execHalt (s : State) : Result := .next (enterHalted s)

/-- `PREFIX_CB`, opcode 0xCB (R346). -/
def execPrefixCb (s : State) : Result := .next (noOperation Cost.stub s)

/-- `UNDEF_D3`, opcode 0xD3 (R345). -/
def execUndefD3 (s : State) : Result := .next (noOperation Cost.undef s)

/-- `UNDEF_DB`, opcode 0xDB (R345). -/
def execUndefDB (s : State) : Result := .next (noOperation Cost.undef s)

/-- `UNDEF_DD`, opcode 0xDD (R345). -/
def execUndefDD (s : State) : Result := .next (noOperation Cost.undef s)

/-- `UNDEF_E3`, opcode 0xE3 (R345). -/
def execUndefE3 (s : State) : Result := .next (noOperation Cost.undef s)

/-- `UNDEF_E4`, opcode 0xE4 (R345). -/
def execUndefE4 (s : State) : Result := .next (noOperation Cost.undef s)

/-- `UNDEF_EB`, opcode 0xEB (R345). -/
def execUndefEB (s : State) : Result := .next (noOperation Cost.undef s)

/-- `UNDEF_EC`, opcode 0xEC (R345). -/
def execUndefEC (s : State) : Result := .next (noOperation Cost.undef s)

/-- `UNDEF_ED`, opcode 0xED (R345). -/
def execUndefED (s : State) : Result := .next (noOperation Cost.undef s)

/-- `DI`, opcode 0xF3 (R343). -/
def execDi (s : State) : Result := .next (noOperation Cost.stub s)

/-- `UNDEF_F4`, opcode 0xF4 (R345). -/
def execUndefF4 (s : State) : Result := .next (noOperation Cost.undef s)

/-- `EI`, opcode 0xFB (R344). -/
def execEi (s : State) : Result := .next (noOperation Cost.stub s)

/-- `UNDEF_FC`, opcode 0xFC (R345). -/
def execUndefFC (s : State) : Result := .next (noOperation Cost.undef s)

/-- `UNDEF_FD`, opcode 0xFD (R345). -/
def execUndefFD (s : State) : Result := .next (noOperation Cost.undef s)

end Sys2Proof.Machine
end

