-- ==== Sys2Proof/Machine/Step.lean ====
section
/-! DEFINITION. One step of the core (40_step_sequencer.md R141), and the placement of an instruction where the
next step fetches. -/

namespace Sys2Proof.Machine

/-- `Step()` (R141): the idle step while halted (R147), else fetch, select the handler and execute it. -/
def step (s : State) : Host.Outcome State Fault Refusal :=
  if s.halted then .next s.idle
  else exec s.beginStep.fetchInstr.1 s.beginStep.fetchInstr.2

/-- Place the instruction of a table word where the next step fetches (assumption 15). -/
def State.withFetchWord (s : State) (nbits w : Nat) : State := s.loadCode (tableBytes nbits w)

end Sys2Proof.Machine
end

