-- ==== Sys2Proof/Safety.lean ====
section
/-! DEFINITION. The whole system, core and environment, and what counts as a safe state and a safe run. -/

namespace Sys2Proof.Machine

/-! ## Transitions -/

/-- Everything that changes the system (00_scope.md R7): a step of the core, and the two environment
transitions between steps. `RUN` (40_step_sequencer.md R154) is the choice of how many steps there are. -/
inductive Event where
  /-- One step of the core (R141). -/
  | step
  /-- `WAKE` (R153). -/
  | wake
  /-- The `reset` input (R155). -/
  | reset
deriving DecidableEq, Repr

/-- What an event does. -/
def State.after (s : State) : Event → Result
  | .step => Sys2Proof.Machine.step s
  | .wake => .next s.wake
  | .reset => .next s.assertReset

/-- A run under a list of events, stopping at the first fault or refusal; R148's "run of n steps" is the list
of n steps, with no environment event. -/
def State.run (s : State) : List Event → Result
  | [] => .next s
  | ev :: rest =>
    match s.after ev with
    | .next t => t.run rest
    | .fault r => .fault r
    | .refused r => .refused r

/-! ## Invariants -/

/-- 10_state.md R26: "In every reachable state `F[3:0] = 0`". -/
abbrev State.flagsClean (s : State) : Prop := s.f &&& 0x0F = 0

/-- The invariant every step keeps: F is clean and the memory is in its canonical form. -/
abbrev State.Inv (s : State) : Prop := s.flagsClean ∧ s.mem.wf

/-- A state is safe if a step from it ends in a next state: 60_exceptions.md R400 says every state is. -/
def State.Safe (s : State) : Prop := ∃ t, step s = .next t

end Sys2Proof.Machine
end

