-- ==== Sys2Proof/Safety/Terms.lean ====
section
/-! DEFINITION. The terms in which claims about instructions are written: flag bytes, encodings, and what a
write leaves behind, each from the spec's words and not from the model's operations. -/

namespace Sys2Proof.Spec

open Sys2Proof.Machine

/-- The flag byte with the four flags in their places (10_state.md R23) and bits 3 to 0 zero. -/
def flagByte (z n h c : Bool) : Byte :=
  (if z then 0x80 else 0) ||| (if n then 0x40 else 0) ||| (if h then 0x20 else 0) ||| (if c then 0x10 else 0)

/-- F after all four flags are written: bits 3 to 0, which are zero in every reachable state (R26), are left
alone. -/
def withFlags (f : Byte) (z n h c : Bool) : Byte := flagByte z n h c ||| (f &&& 0x0F)

/-- `bytes` is the code of `i`: the encoder writes it, and the decoder reads it back from the front of any
byte string. -/
def Encoded (bytes : List Byte) (i : Instr) : Prop :=
  encode i = bytes ∧ ∀ rest, decode (bytes ++ rest) = .ok i rest

/-- The addresses where this hardware stores a write (20_memory.md R63, R65, R67 to R71 with the parameter
values of R6): cartridge RAM, working RAM, high RAM. -/
def storable (x : Word) : Bool :=
  (decide (0xA000 ≤ x.toNat) && decide (x.toNat ≤ 0xDFFF)) ||
  (decide (0xFF80 ≤ x.toNat) && decide (x.toNat ≤ 0xFFFE))

/-- The addresses outside the five regions, and the unbacked video window (R63, R65, R71). -/
def unbacked (x : Word) : Bool :=
  (decide (0x8000 ≤ x.toNat) && decide (x.toNat ≤ 0x9FFF)) ||
  (decide (0xE000 ≤ x.toNat) && decide (x.toNat ≤ 0xFF7F)) || decide (x.toNat = 0xFFFF)

/-- `after` is `before` with the byte `v` written at `addr`: every other address reads as before, and so does
`addr` where the write is not stored. -/
def Written (before after : Memory) (addr : Word) (v : Byte) : Prop :=
  ∀ x, after.readByte x = if x = addr ∧ storable addr = true then v else before.readByte x

/-- `after` is `before` with two bytes written at two different addresses. -/
def WrittenTwice (before after : Memory) (addr₁ : Word) (v₁ : Byte) (addr₂ : Word) (v₂ : Byte) : Prop :=
  ∀ x, after.readByte x =
    if x = addr₁ ∧ storable addr₁ = true then v₁
    else if x = addr₂ ∧ storable addr₂ = true then v₂
    else before.readByte x

/-- The bytes at an address and after it, as an instruction fetch would read them. -/
def bytesAt (s : State) (addr : Word) : Nat → List Byte
  | 0 => []
  | n + 1 => s.readByte addr :: bytesAt s (addr + 1) n

/-- The read accesses that fetch `n` bytes at an address. -/
def fetchLog (s : State) (addr : Word) : Nat → List BusAccess
  | 0 => []
  | n + 1 => .read addr (s.readByte addr) :: fetchLog s (addr + 1) n

/-- The state in which the meaning of an instruction of `n` bytes at PC runs (10_state.md R30,
40_step_sequencer.md R142, R143): `opcode` holds the first byte, PC is past the instruction, and its bytes
have been read in order. -/
def fetched (s : State) (n : Nat) : State :=
  { s with
    opcode := s.readByte s.pc
    pc := s.pc + BitVec.ofNat 16 n
    bus := fetchLog s s.pc n }

/-- The high register of a stack pair (10_state.md R24, R25; 30_encoding.md R105). -/
def pairHigh (s : State) : StackPair → Byte
  | .bc => s.b
  | .de => s.d
  | .hl => s.h
  | .af => s.a

/-- The low register of a stack pair. -/
def pairLow (s : State) : StackPair → Byte
  | .bc => s.c
  | .de => s.e
  | .hl => s.l
  | .af => s.f

/-- What a conditional instruction tests (30_encoding.md R106). -/
def conditionOf (s : State) : Cond → Bool
  | .nz => !s.f.getLsbD 7
  | .z => s.f.getLsbD 7
  | .nc => !s.f.getLsbD 4
  | .c => s.f.getLsbD 4

/-- The three forms of an accumulator operation, with a register, with the byte at HL and with an immediate
byte (44_arith_logic.md): each encoded as R107 lays its code out, each completing with `newA A v C` in A and
`newF F A v` in F, at the cost of its row of R151, and changing nothing else. -/
def AccumulatorRows (op : AluOp) (newA : Byte → Byte → Bool → Byte) (newF : Byte → Byte → Byte → Byte) : Prop :=
  (∀ (r : Reg8) (s : State),
    Encoded [BitVec.ofNat 8 (0x80 + 8 * op.code + r.code)] (Instr.aluReg op r) ∧
    exec (Instr.aluReg op r) s = .next
      { s with
        a := newA s.a (s.getReg r) (s.f.getLsbD 4), f := newF s.f s.a (s.getReg r), cycles := s.cycles + 1 }) ∧
  (∀ s : State,
    Encoded [BitVec.ofNat 8 (0x86 + 8 * op.code)] (Instr.aluIndHl op) ∧
    exec (Instr.aluIndHl op) s = .next
      { s with
        a := newA s.a (s.readByte s.hl) (s.f.getLsbD 4), f := newF s.f s.a (s.readByte s.hl)
        cycles := s.cycles + 2, bus := s.bus ++ [.read s.hl (s.readByte s.hl)] }) ∧
  (∀ (v : Byte) (s : State),
    Encoded [BitVec.ofNat 8 (0xC6 + 8 * op.code), v] (Instr.aluD8 op v) ∧
    exec (Instr.aluD8 op v) s = .next
      { s with a := newA s.a v (s.f.getLsbD 4), f := newF s.f s.a v, cycles := s.cycles + 2 })

/-- Packed BCD (41_alu_helpers.md R172): both nibbles at most 9. -/
def isBcd (a : Byte) : Bool := decide (a.toNat % 16 ≤ 9) && decide (a.toNat / 16 ≤ 9)

/-- The number a packed BCD byte stands for. -/
def bcdValue (a : Byte) : Nat := 10 * (a.toNat / 16) + a.toNat % 16

end Sys2Proof.Spec
end

