-- ==== Sys2Proof/Safety/Tables.lean ====
section
/-! DEFINITION. Tables of the spec, one entry per row of the opcode map, written from the spec's own tables and
not from the meanings: the flag table (10_state.md R28), the cost table and its bus column
(40_step_sequencer.md R151), and what each instruction writes (the Operation of its rule). -/

namespace Sys2Proof.Spec

open Sys2Proof.Machine

/-- What an instruction does to a flag, as the flag table marks it (R28): `-`, `0`, `1`, `*`. -/
inductive FlagMark where
  | keep | zero | one | computed
deriving DecidableEq, Repr

/-- A flag before and after an instruction agrees with its mark. -/
def FlagMark.Allows : FlagMark → Bool → Bool → Prop
  | .keep, before, after => after = before
  | .zero, _, after => after = false
  | .one, _, after => after = true
  | .computed, _, _ => True

/-- The flag table (R28): the marks of Z, N, H, C, in this order. -/
def flagMarks : Instr → FlagMark × FlagMark × FlagMark × FlagMark
  | .daa => (.computed, .keep, .zero, .computed)
  | .cpl => (.keep, .one, .one, .keep)
  | .scf => (.keep, .zero, .zero, .one)
  | .ccf => (.keep, .zero, .zero, .computed)
  | .popAf => (.computed, .computed, .computed, .computed)
  | .addSpR8 _ | .ldHlSpR8 _ => (.zero, .zero, .computed, .computed)
  | .rlca | .rrca | .rla | .rra => (.zero, .zero, .zero, .computed)
  | .addHlBc | .addHlDe | .addHlHl | .addHlSp => (.keep, .zero, .computed, .computed)
  | .incB | .incC | .incD | .incE | .incH | .incL | .incIndHl | .incA => (.computed, .zero, .computed, .keep)
  | .decB | .decC | .decD | .decE | .decH | .decL | .decIndHl | .decA => (.computed, .one, .computed, .keep)
  | .andB | .andC | .andD | .andE | .andH | .andL | .andIndHl | .andA | .andD8 _ => (.computed, .zero, .one, .zero)
  | .addAB | .addAC | .addAD | .addAE | .addAH | .addAL | .addAIndHl | .addAA | .adcAB | .adcAC | .adcAD
  | .adcAE | .adcAH | .adcAL | .adcAIndHl | .adcAA | .addAD8 _ | .adcAD8 _ => (.computed, .zero, .computed, .computed)
  | .xorB | .xorC | .xorD | .xorE | .xorH | .xorL | .xorIndHl | .xorA | .orB | .orC | .orD | .orE | .orH
  | .orL | .orIndHl | .orA | .xorD8 _ | .orD8 _ => (.computed, .zero, .zero, .zero)
  | .subB | .subC | .subD | .subE | .subH | .subL | .subIndHl | .subA | .sbcAB | .sbcAC | .sbcAD | .sbcAE
  | .sbcAH | .sbcAL | .sbcAIndHl | .sbcAA | .cpB | .cpC | .cpD | .cpE | .cpH | .cpL | .cpIndHl | .cpA
  | .subD8 _ | .sbcAD8 _ | .cpD8 _ => (.computed, .one, .computed, .computed)
  | .nop | .ldBcD16 _ | .ldIndBcA | .incBc | .ldBD8 _ | .ldIndA16Sp _ | .ldAIndBc | .decBc | .ldCD8 _
  | .stop | .ldDeD16 _ | .ldIndDeA | .incDe | .ldDD8 _ | .jrR8 _ | .ldAIndDe | .decDe | .ldED8 _
  | .jrNzR8 _ | .ldHlD16 _ | .ldIndHlIncA | .incHl | .ldHD8 _ | .jrZR8 _ | .ldAIndHlInc | .decHl
  | .ldLD8 _ | .jrNcR8 _ | .ldSpD16 _ | .ldIndHlDecA | .incSp | .ldIndHlD8 _ | .jrCR8 _ | .ldAIndHlDec
  | .decSp | .ldAD8 _ | .ldBB | .ldBC | .ldBD | .ldBE | .ldBH | .ldBL | .ldBIndHl | .ldBA | .ldCB | .ldCC
  | .ldCD | .ldCE | .ldCH | .ldCL | .ldCIndHl | .ldCA | .ldDB | .ldDC | .ldDD | .ldDE | .ldDH | .ldDL
  | .ldDIndHl | .ldDA | .ldEB | .ldEC | .ldED | .ldEE | .ldEH | .ldEL | .ldEIndHl | .ldEA | .ldHB | .ldHC
  | .ldHD | .ldHE | .ldHH | .ldHL | .ldHIndHl | .ldHA | .ldLB | .ldLC | .ldLD | .ldLE | .ldLH | .ldLL
  | .ldLIndHl | .ldLA | .ldIndHlB | .ldIndHlC | .ldIndHlD | .ldIndHlE | .ldIndHlH | .ldIndHlL | .halt
  | .ldIndHlA | .ldAB | .ldAC | .ldAD | .ldAE | .ldAH | .ldAL | .ldAIndHl | .ldAA | .retNz | .popBc
  | .jpNzA16 _ | .jpA16 _ | .callNzA16 _ | .pushBc | .rst00H | .retZ | .ret | .jpZA16 _ | .prefixCb
  | .callZA16 _ | .callA16 _ | .rst08H | .retNc | .popDe | .jpNcA16 _ | .undefD3 | .callNcA16 _ | .pushDe
  | .rst10H | .retC | .reti | .jpCA16 _ | .undefDB | .callCA16 _ | .undefDD | .rst18H | .ldhIndA8A _
  | .popHl | .ldIndCA | .undefE3 | .undefE4 | .pushHl | .rst20H | .jpHl | .ldIndA16A _ | .undefEB
  | .undefEC | .undefED | .rst28H | .ldhAIndA8 _ | .ldAIndC | .di | .undefF4 | .pushAf | .rst30H | .ldSpHl
  | .ldAIndA16 _ | .ei | .undefFC | .undefFD | .rst38H => (.keep, .keep, .keep, .keep)

/-- The cost of an instruction in machine cycles (R151; `cycles`, `cycles_taken`, `cycles_not_taken` of
spec/opcode_table.json), by the condition in the state before it. -/
def costOf (i : Instr) (s : State) : Nat :=
  match i with
  | .ldIndA16Sp _ => 5
  | .jrNzR8 _ => if !flagZ s.f then 3 else 2
  | .jrZR8 _ => if flagZ s.f then 3 else 2
  | .jrNcR8 _ => if !flagC s.f then 3 else 2
  | .jrCR8 _ => if flagC s.f then 3 else 2
  | .retNz => if !flagZ s.f then 5 else 2
  | .jpNzA16 _ => if !flagZ s.f then 4 else 3
  | .callNzA16 _ => if !flagZ s.f then 6 else 3
  | .retZ => if flagZ s.f then 5 else 2
  | .jpZA16 _ => if flagZ s.f then 4 else 3
  | .callZA16 _ => if flagZ s.f then 6 else 3
  | .callA16 _ => 6
  | .retNc => if !flagC s.f then 5 else 2
  | .jpNcA16 _ => if !flagC s.f then 4 else 3
  | .callNcA16 _ => if !flagC s.f then 6 else 3
  | .retC => if flagC s.f then 5 else 2
  | .jpCA16 _ => if flagC s.f then 4 else 3
  | .callCA16 _ => if flagC s.f then 6 else 3
  | .ldBcD16 _ | .ldDeD16 _ | .jrR8 _ | .ldHlD16 _ | .ldSpD16 _ | .incIndHl | .decIndHl | .ldIndHlD8 _
  | .popBc | .popDe | .ldhIndA8A _ | .popHl | .ldhAIndA8 _ | .popAf | .ldHlSpR8 _ => 3
  | .jpA16 _ | .pushBc | .rst00H | .ret | .rst08H | .pushDe | .rst10H | .reti | .rst18H | .pushHl
  | .rst20H | .addSpR8 _ | .ldIndA16A _ | .rst28H | .pushAf | .rst30H | .ldAIndA16 _ | .rst38H => 4
  | .ldIndBcA | .incBc | .ldBD8 _ | .addHlBc | .ldAIndBc | .decBc | .ldCD8 _ | .ldIndDeA | .incDe
  | .ldDD8 _ | .addHlDe | .ldAIndDe | .decDe | .ldED8 _ | .ldIndHlIncA | .incHl | .ldHD8 _ | .addHlHl
  | .ldAIndHlInc | .decHl | .ldLD8 _ | .ldIndHlDecA | .incSp | .addHlSp | .ldAIndHlDec | .decSp | .ldAD8 _
  | .ldBIndHl | .ldCIndHl | .ldDIndHl | .ldEIndHl | .ldHIndHl | .ldLIndHl | .ldIndHlB | .ldIndHlC
  | .ldIndHlD | .ldIndHlE | .ldIndHlH | .ldIndHlL | .ldIndHlA | .ldAIndHl | .addAIndHl | .adcAIndHl
  | .subIndHl | .sbcAIndHl | .andIndHl | .xorIndHl | .orIndHl | .cpIndHl | .addAD8 _ | .adcAD8 _
  | .subD8 _ | .sbcAD8 _ | .ldIndCA | .andD8 _ | .xorD8 _ | .ldAIndC | .orD8 _ | .ldSpHl | .cpD8 _ => 2
  | .nop | .incB | .decB | .rlca | .incC | .decC | .rrca | .stop | .incD | .decD | .rla | .incE | .decE
  | .rra | .incH | .decH | .daa | .incL | .decL | .cpl | .scf | .incA | .decA | .ccf | .ldBB | .ldBC
  | .ldBD | .ldBE | .ldBH | .ldBL | .ldBA | .ldCB | .ldCC | .ldCD | .ldCE | .ldCH | .ldCL | .ldCA | .ldDB
  | .ldDC | .ldDD | .ldDE | .ldDH | .ldDL | .ldDA | .ldEB | .ldEC | .ldED | .ldEE | .ldEH | .ldEL | .ldEA
  | .ldHB | .ldHC | .ldHD | .ldHE | .ldHH | .ldHL | .ldHA | .ldLB | .ldLC | .ldLD | .ldLE | .ldLH | .ldLL
  | .ldLA | .halt | .ldAB | .ldAC | .ldAD | .ldAE | .ldAH | .ldAL | .ldAA | .addAB | .addAC | .addAD
  | .addAE | .addAH | .addAL | .addAA | .adcAB | .adcAC | .adcAD | .adcAE | .adcAH | .adcAL | .adcAA
  | .subB | .subC | .subD | .subE | .subH | .subL | .subA | .sbcAB | .sbcAC | .sbcAD | .sbcAE | .sbcAH
  | .sbcAL | .sbcAA | .andB | .andC | .andD | .andE | .andH | .andL | .andA | .xorB | .xorC | .xorD
  | .xorE | .xorH | .xorL | .xorA | .orB | .orC | .orD | .orE | .orH | .orL | .orA | .cpB | .cpC | .cpD
  | .cpE | .cpH | .cpL | .cpA | .prefixCb | .undefD3 | .undefDB | .undefDD | .undefE3 | .undefE4 | .jpHl
  | .undefEB | .undefEC | .undefED | .di | .undefF4 | .ei | .undefFC | .undefFD => 1

/-- The number of bus accesses of an instruction, its fetch included (R151, column "bus"). -/
def busAccessesOf (i : Instr) (s : State) : Nat :=
  match i with
  | .retNz => if !flagZ s.f then 3 else 1
  | .callNzA16 _ => if !flagZ s.f then 5 else 3
  | .retZ => if flagZ s.f then 3 else 1
  | .callZA16 _ => if flagZ s.f then 5 else 3
  | .retNc => if !flagC s.f then 3 else 1
  | .callNcA16 _ => if !flagC s.f then 5 else 3
  | .retC => if flagC s.f then 3 else 1
  | .callCA16 _ => if flagC s.f then 5 else 3
  | .ldIndA16Sp _ | .callA16 _ => 5
  | .ldIndA16A _ | .ldAIndA16 _ => 4
  | .ldBcD16 _ | .ldDeD16 _ | .ldHlD16 _ | .ldSpD16 _ | .incIndHl | .decIndHl | .ldIndHlD8 _ | .popBc
  | .jpNzA16 _ | .jpA16 _ | .pushBc | .rst00H | .ret | .jpZA16 _ | .rst08H | .popDe | .jpNcA16 _ | .pushDe
  | .rst10H | .reti | .jpCA16 _ | .rst18H | .ldhIndA8A _ | .popHl | .pushHl | .rst20H | .rst28H
  | .ldhAIndA8 _ | .popAf | .pushAf | .rst30H | .rst38H => 3
  | .ldIndBcA | .ldBD8 _ | .ldAIndBc | .ldCD8 _ | .ldIndDeA | .ldDD8 _ | .jrR8 _ | .ldAIndDe | .ldED8 _
  | .jrNzR8 _ | .ldIndHlIncA | .ldHD8 _ | .jrZR8 _ | .ldAIndHlInc | .ldLD8 _ | .jrNcR8 _ | .ldIndHlDecA
  | .jrCR8 _ | .ldAIndHlDec | .ldAD8 _ | .ldBIndHl | .ldCIndHl | .ldDIndHl | .ldEIndHl | .ldHIndHl
  | .ldLIndHl | .ldIndHlB | .ldIndHlC | .ldIndHlD | .ldIndHlE | .ldIndHlH | .ldIndHlL | .ldIndHlA
  | .ldAIndHl | .addAIndHl | .adcAIndHl | .subIndHl | .sbcAIndHl | .andIndHl | .xorIndHl | .orIndHl
  | .cpIndHl | .addAD8 _ | .adcAD8 _ | .subD8 _ | .sbcAD8 _ | .ldIndCA | .andD8 _ | .addSpR8 _ | .xorD8 _
  | .ldAIndC | .orD8 _ | .ldHlSpR8 _ | .cpD8 _ => 2
  | .nop | .incBc | .incB | .decB | .rlca | .addHlBc | .decBc | .incC | .decC | .rrca | .stop | .incDe
  | .incD | .decD | .rla | .addHlDe | .decDe | .incE | .decE | .rra | .incHl | .incH | .decH | .daa
  | .addHlHl | .decHl | .incL | .decL | .cpl | .incSp | .scf | .addHlSp | .decSp | .incA | .decA | .ccf
  | .ldBB | .ldBC | .ldBD | .ldBE | .ldBH | .ldBL | .ldBA | .ldCB | .ldCC | .ldCD | .ldCE | .ldCH | .ldCL
  | .ldCA | .ldDB | .ldDC | .ldDD | .ldDE | .ldDH | .ldDL | .ldDA | .ldEB | .ldEC | .ldED | .ldEE | .ldEH
  | .ldEL | .ldEA | .ldHB | .ldHC | .ldHD | .ldHE | .ldHH | .ldHL | .ldHA | .ldLB | .ldLC | .ldLD | .ldLE
  | .ldLH | .ldLL | .ldLA | .halt | .ldAB | .ldAC | .ldAD | .ldAE | .ldAH | .ldAL | .ldAA | .addAB
  | .addAC | .addAD | .addAE | .addAH | .addAL | .addAA | .adcAB | .adcAC | .adcAD | .adcAE | .adcAH
  | .adcAL | .adcAA | .subB | .subC | .subD | .subE | .subH | .subL | .subA | .sbcAB | .sbcAC | .sbcAD
  | .sbcAE | .sbcAH | .sbcAL | .sbcAA | .andB | .andC | .andD | .andE | .andH | .andL | .andA | .xorB
  | .xorC | .xorD | .xorE | .xorH | .xorL | .xorA | .orB | .orC | .orD | .orE | .orH | .orL | .orA | .cpB
  | .cpC | .cpD | .cpE | .cpH | .cpL | .cpA | .prefixCb | .undefD3 | .undefDB | .undefDD | .undefE3
  | .undefE4 | .jpHl | .undefEB | .undefEC | .undefED | .di | .undefF4 | .ldSpHl | .ei | .undefFC
  | .undefFD => 1

/-- The 8-bit registers other than F that an instruction writes (the Operation of its rule). -/
def regsWritten : Instr → List Reg8
  | .ldAIndHlInc | .ldAIndHlDec => [.a, .h, .l]
  | .ldBcD16 _ | .incBc | .decBc | .popBc => [.b, .c]
  | .ldDeD16 _ | .incDe | .decDe | .popDe => [.d, .e]
  | .incB | .decB | .ldBD8 _ | .ldBB | .ldBC | .ldBD | .ldBE | .ldBH | .ldBL | .ldBIndHl | .ldBA => [.b]
  | .addHlBc | .addHlDe | .ldHlD16 _ | .ldIndHlIncA | .incHl | .addHlHl | .decHl | .ldIndHlDecA | .addHlSp
  | .popHl | .ldHlSpR8 _ => [.h, .l]
  | .incC | .decC | .ldCD8 _ | .ldCB | .ldCC | .ldCD | .ldCE | .ldCH | .ldCL | .ldCIndHl | .ldCA => [.c]
  | .incD | .decD | .ldDD8 _ | .ldDB | .ldDC | .ldDD | .ldDE | .ldDH | .ldDL | .ldDIndHl | .ldDA => [.d]
  | .incE | .decE | .ldED8 _ | .ldEB | .ldEC | .ldED | .ldEE | .ldEH | .ldEL | .ldEIndHl | .ldEA => [.e]
  | .incH | .decH | .ldHD8 _ | .ldHB | .ldHC | .ldHD | .ldHE | .ldHH | .ldHL | .ldHIndHl | .ldHA => [.h]
  | .incL | .decL | .ldLD8 _ | .ldLB | .ldLC | .ldLD | .ldLE | .ldLH | .ldLL | .ldLIndHl | .ldLA => [.l]
  | .nop | .ldIndBcA | .ldIndA16Sp _ | .stop | .ldIndDeA | .jrR8 _ | .jrNzR8 _ | .jrZR8 _ | .jrNcR8 _
  | .ldSpD16 _ | .incSp | .incIndHl | .decIndHl | .ldIndHlD8 _ | .scf | .jrCR8 _ | .decSp | .ccf
  | .ldIndHlB | .ldIndHlC | .ldIndHlD | .ldIndHlE | .ldIndHlH | .ldIndHlL | .halt | .ldIndHlA | .cpB
  | .cpC | .cpD | .cpE | .cpH | .cpL | .cpIndHl | .cpA | .retNz | .jpNzA16 _ | .jpA16 _ | .callNzA16 _
  | .pushBc | .rst00H | .retZ | .ret | .jpZA16 _ | .prefixCb | .callZA16 _ | .callA16 _ | .rst08H | .retNc
  | .jpNcA16 _ | .undefD3 | .callNcA16 _ | .pushDe | .rst10H | .retC | .reti | .jpCA16 _ | .undefDB
  | .callCA16 _ | .undefDD | .rst18H | .ldhIndA8A _ | .ldIndCA | .undefE3 | .undefE4 | .pushHl | .rst20H
  | .addSpR8 _ | .jpHl | .ldIndA16A _ | .undefEB | .undefEC | .undefED | .rst28H | .di | .undefF4
  | .pushAf | .rst30H | .ldSpHl | .ei | .undefFC | .undefFD | .cpD8 _ | .rst38H => []
  | .rlca | .ldAIndBc | .rrca | .rla | .ldAIndDe | .rra | .daa | .cpl | .incA | .decA | .ldAD8 _ | .ldAB
  | .ldAC | .ldAD | .ldAE | .ldAH | .ldAL | .ldAIndHl | .ldAA | .addAB | .addAC | .addAD | .addAE | .addAH
  | .addAL | .addAIndHl | .addAA | .adcAB | .adcAC | .adcAD | .adcAE | .adcAH | .adcAL | .adcAIndHl
  | .adcAA | .subB | .subC | .subD | .subE | .subH | .subL | .subIndHl | .subA | .sbcAB | .sbcAC | .sbcAD
  | .sbcAE | .sbcAH | .sbcAL | .sbcAIndHl | .sbcAA | .andB | .andC | .andD | .andE | .andH | .andL
  | .andIndHl | .andA | .xorB | .xorC | .xorD | .xorE | .xorH | .xorL | .xorIndHl | .xorA | .orB | .orC
  | .orD | .orE | .orH | .orL | .orIndHl | .orA | .addAD8 _ | .adcAD8 _ | .subD8 _ | .sbcAD8 _ | .andD8 _
  | .xorD8 _ | .ldhAIndA8 _ | .popAf | .ldAIndC | .orD8 _ | .ldAIndA16 _ => [.a]

/-- Whether an instruction writes SP, or may (10_state.md R29). -/
def writesSp : Instr → Bool
  | .ldSpD16 _ | .incSp | .decSp | .retNz | .popBc | .callNzA16 _ | .pushBc | .rst00H | .retZ | .ret
  | .callZA16 _ | .callA16 _ | .rst08H | .retNc | .popDe | .callNcA16 _ | .pushDe | .rst10H | .retC
  | .reti | .callCA16 _ | .rst18H | .popHl | .pushHl | .rst20H | .addSpR8 _ | .rst28H | .popAf | .pushAf
  | .rst30H | .ldSpHl | .rst38H => true
  | .nop | .ldBcD16 _ | .ldIndBcA | .incBc | .incB | .decB | .ldBD8 _ | .rlca | .ldIndA16Sp _ | .addHlBc
  | .ldAIndBc | .decBc | .incC | .decC | .ldCD8 _ | .rrca | .stop | .ldDeD16 _ | .ldIndDeA | .incDe
  | .incD | .decD | .ldDD8 _ | .rla | .jrR8 _ | .addHlDe | .ldAIndDe | .decDe | .incE | .decE | .ldED8 _
  | .rra | .jrNzR8 _ | .ldHlD16 _ | .ldIndHlIncA | .incHl | .incH | .decH | .ldHD8 _ | .daa | .jrZR8 _
  | .addHlHl | .ldAIndHlInc | .decHl | .incL | .decL | .ldLD8 _ | .cpl | .jrNcR8 _ | .ldIndHlDecA
  | .incIndHl | .decIndHl | .ldIndHlD8 _ | .scf | .jrCR8 _ | .addHlSp | .ldAIndHlDec | .incA | .decA
  | .ldAD8 _ | .ccf | .ldBB | .ldBC | .ldBD | .ldBE | .ldBH | .ldBL | .ldBIndHl | .ldBA | .ldCB | .ldCC
  | .ldCD | .ldCE | .ldCH | .ldCL | .ldCIndHl | .ldCA | .ldDB | .ldDC | .ldDD | .ldDE | .ldDH | .ldDL
  | .ldDIndHl | .ldDA | .ldEB | .ldEC | .ldED | .ldEE | .ldEH | .ldEL | .ldEIndHl | .ldEA | .ldHB | .ldHC
  | .ldHD | .ldHE | .ldHH | .ldHL | .ldHIndHl | .ldHA | .ldLB | .ldLC | .ldLD | .ldLE | .ldLH | .ldLL
  | .ldLIndHl | .ldLA | .ldIndHlB | .ldIndHlC | .ldIndHlD | .ldIndHlE | .ldIndHlH | .ldIndHlL | .halt
  | .ldIndHlA | .ldAB | .ldAC | .ldAD | .ldAE | .ldAH | .ldAL | .ldAIndHl | .ldAA | .addAB | .addAC
  | .addAD | .addAE | .addAH | .addAL | .addAIndHl | .addAA | .adcAB | .adcAC | .adcAD | .adcAE | .adcAH
  | .adcAL | .adcAIndHl | .adcAA | .subB | .subC | .subD | .subE | .subH | .subL | .subIndHl | .subA
  | .sbcAB | .sbcAC | .sbcAD | .sbcAE | .sbcAH | .sbcAL | .sbcAIndHl | .sbcAA | .andB | .andC | .andD
  | .andE | .andH | .andL | .andIndHl | .andA | .xorB | .xorC | .xorD | .xorE | .xorH | .xorL | .xorIndHl
  | .xorA | .orB | .orC | .orD | .orE | .orH | .orL | .orIndHl | .orA | .cpB | .cpC | .cpD | .cpE | .cpH
  | .cpL | .cpIndHl | .cpA | .jpNzA16 _ | .jpA16 _ | .addAD8 _ | .jpZA16 _ | .prefixCb | .adcAD8 _
  | .jpNcA16 _ | .undefD3 | .subD8 _ | .jpCA16 _ | .undefDB | .undefDD | .sbcAD8 _ | .ldhIndA8A _
  | .ldIndCA | .undefE3 | .undefE4 | .andD8 _ | .jpHl | .ldIndA16A _ | .undefEB | .undefEC | .undefED
  | .xorD8 _ | .ldhAIndA8 _ | .ldAIndC | .di | .undefF4 | .orD8 _ | .ldHlSpR8 _ | .ldAIndA16 _ | .ei
  | .undefFC | .undefFD | .cpD8 _ => false

/-- The target of a control transfer that is taken, in the state in which the meaning runs, where PC holds the
address of the byte after the instruction (45_jumps_calls_returns.md; `RST`, 46_stack_and_restart.md R313);
`none` for an instruction that does not transfer control and for a condition that is false (10_state.md R31). -/
def controlTarget (i : Instr) (s : State) : Option Word :=
  match i with
  | .jrR8 r8 => some (s.pc + signExtend16 r8)
  | .jrNzR8 r8 => if !flagZ s.f then some (s.pc + signExtend16 r8) else none
  | .jrZR8 r8 => if flagZ s.f then some (s.pc + signExtend16 r8) else none
  | .jrNcR8 r8 => if !flagC s.f then some (s.pc + signExtend16 r8) else none
  | .jrCR8 r8 => if flagC s.f then some (s.pc + signExtend16 r8) else none
  | .retNz => if !flagZ s.f then some (word16 (s.readByte (s.sp + 1)) (s.readByte s.sp)) else none
  | .rst00H => some 0x0000
  | .retZ => if flagZ s.f then some (word16 (s.readByte (s.sp + 1)) (s.readByte s.sp)) else none
  | .rst08H => some 0x0008
  | .retNc => if !flagC s.f then some (word16 (s.readByte (s.sp + 1)) (s.readByte s.sp)) else none
  | .rst10H => some 0x0010
  | .retC => if flagC s.f then some (word16 (s.readByte (s.sp + 1)) (s.readByte s.sp)) else none
  | .rst18H => some 0x0018
  | .rst20H => some 0x0020
  | .jpHl => some s.hl
  | .rst28H => some 0x0028
  | .rst30H => some 0x0030
  | .rst38H => some 0x0038
  | .jpNzA16 a16 | .callNzA16 a16 => if !flagZ s.f then some a16 else none
  | .jpA16 a16 | .callA16 a16 => some a16
  | .ret | .reti => some (word16 (s.readByte (s.sp + 1)) (s.readByte s.sp))
  | .jpZA16 a16 | .callZA16 a16 => if flagZ s.f then some a16 else none
  | .jpNcA16 a16 | .callNcA16 a16 => if !flagC s.f then some a16 else none
  | .jpCA16 a16 | .callCA16 a16 => if flagC s.f then some a16 else none
  | .nop | .ldBcD16 _ | .ldIndBcA | .incBc | .incB | .decB | .ldBD8 _ | .rlca | .ldIndA16Sp _ | .addHlBc
  | .ldAIndBc | .decBc | .incC | .decC | .ldCD8 _ | .rrca | .stop | .ldDeD16 _ | .ldIndDeA | .incDe
  | .incD | .decD | .ldDD8 _ | .rla | .addHlDe | .ldAIndDe | .decDe | .incE | .decE | .ldED8 _ | .rra
  | .ldHlD16 _ | .ldIndHlIncA | .incHl | .incH | .decH | .ldHD8 _ | .daa | .addHlHl | .ldAIndHlInc
  | .decHl | .incL | .decL | .ldLD8 _ | .cpl | .ldSpD16 _ | .ldIndHlDecA | .incSp | .incIndHl | .decIndHl
  | .ldIndHlD8 _ | .scf | .addHlSp | .ldAIndHlDec | .decSp | .incA | .decA | .ldAD8 _ | .ccf | .ldBB
  | .ldBC | .ldBD | .ldBE | .ldBH | .ldBL | .ldBIndHl | .ldBA | .ldCB | .ldCC | .ldCD | .ldCE | .ldCH
  | .ldCL | .ldCIndHl | .ldCA | .ldDB | .ldDC | .ldDD | .ldDE | .ldDH | .ldDL | .ldDIndHl | .ldDA | .ldEB
  | .ldEC | .ldED | .ldEE | .ldEH | .ldEL | .ldEIndHl | .ldEA | .ldHB | .ldHC | .ldHD | .ldHE | .ldHH
  | .ldHL | .ldHIndHl | .ldHA | .ldLB | .ldLC | .ldLD | .ldLE | .ldLH | .ldLL | .ldLIndHl | .ldLA
  | .ldIndHlB | .ldIndHlC | .ldIndHlD | .ldIndHlE | .ldIndHlH | .ldIndHlL | .halt | .ldIndHlA | .ldAB
  | .ldAC | .ldAD | .ldAE | .ldAH | .ldAL | .ldAIndHl | .ldAA | .addAB | .addAC | .addAD | .addAE | .addAH
  | .addAL | .addAIndHl | .addAA | .adcAB | .adcAC | .adcAD | .adcAE | .adcAH | .adcAL | .adcAIndHl
  | .adcAA | .subB | .subC | .subD | .subE | .subH | .subL | .subIndHl | .subA | .sbcAB | .sbcAC | .sbcAD
  | .sbcAE | .sbcAH | .sbcAL | .sbcAIndHl | .sbcAA | .andB | .andC | .andD | .andE | .andH | .andL
  | .andIndHl | .andA | .xorB | .xorC | .xorD | .xorE | .xorH | .xorL | .xorIndHl | .xorA | .orB | .orC
  | .orD | .orE | .orH | .orL | .orIndHl | .orA | .cpB | .cpC | .cpD | .cpE | .cpH | .cpL | .cpIndHl
  | .cpA | .popBc | .pushBc | .addAD8 _ | .prefixCb | .adcAD8 _ | .popDe | .undefD3 | .pushDe | .subD8 _
  | .undefDB | .undefDD | .sbcAD8 _ | .ldhIndA8A _ | .popHl | .ldIndCA | .undefE3 | .undefE4 | .pushHl
  | .andD8 _ | .addSpR8 _ | .ldIndA16A _ | .undefEB | .undefEC | .undefED | .xorD8 _ | .ldhAIndA8 _
  | .popAf | .ldAIndC | .di | .undefF4 | .pushAf | .orD8 _ | .ldHlSpR8 _ | .ldSpHl | .ldAIndA16 _ | .ei
  | .undefFC | .undefFD | .cpD8 _ => none

/-- The addresses an instruction stores to, in the order of its writes, in the state in which its meaning runs
(20_memory.md R75 and the Operation of its rule). -/
def storeAddresses (i : Instr) (s : State) : List Word :=
  match i with
  | .ldIndBcA => [s.bc]
  | .ldIndA16Sp a16 => [a16, a16 + 1]
  | .ldIndDeA => [s.de]
  | .callNzA16 _ => if !flagZ s.f then [s.sp - 1, s.sp - 2] else []
  | .callZA16 _ => if flagZ s.f then [s.sp - 1, s.sp - 2] else []
  | .callNcA16 _ => if !flagC s.f then [s.sp - 1, s.sp - 2] else []
  | .callCA16 _ => if flagC s.f then [s.sp - 1, s.sp - 2] else []
  | .ldhIndA8A a8 => [0xFF00 + zeroExtend16 a8]
  | .ldIndCA => [0xFF00 + zeroExtend16 s.c]
  | .ldIndA16A a16 => [a16]
  | .ldIndHlIncA | .ldIndHlDecA | .incIndHl | .decIndHl | .ldIndHlD8 _ | .ldIndHlB | .ldIndHlC | .ldIndHlD
  | .ldIndHlE | .ldIndHlH | .ldIndHlL | .ldIndHlA => [s.hl]
  | .pushBc | .rst00H | .callA16 _ | .rst08H | .pushDe | .rst10H | .rst18H | .pushHl | .rst20H | .rst28H
  | .pushAf | .rst30H | .rst38H => [s.sp - 1, s.sp - 2]
  | .nop | .ldBcD16 _ | .incBc | .incB | .decB | .ldBD8 _ | .rlca | .addHlBc | .ldAIndBc | .decBc | .incC
  | .decC | .ldCD8 _ | .rrca | .stop | .ldDeD16 _ | .incDe | .incD | .decD | .ldDD8 _ | .rla | .jrR8 _
  | .addHlDe | .ldAIndDe | .decDe | .incE | .decE | .ldED8 _ | .rra | .jrNzR8 _ | .ldHlD16 _ | .incHl
  | .incH | .decH | .ldHD8 _ | .daa | .jrZR8 _ | .addHlHl | .ldAIndHlInc | .decHl | .incL | .decL
  | .ldLD8 _ | .cpl | .jrNcR8 _ | .ldSpD16 _ | .incSp | .scf | .jrCR8 _ | .addHlSp | .ldAIndHlDec | .decSp
  | .incA | .decA | .ldAD8 _ | .ccf | .ldBB | .ldBC | .ldBD | .ldBE | .ldBH | .ldBL | .ldBIndHl | .ldBA
  | .ldCB | .ldCC | .ldCD | .ldCE | .ldCH | .ldCL | .ldCIndHl | .ldCA | .ldDB | .ldDC | .ldDD | .ldDE
  | .ldDH | .ldDL | .ldDIndHl | .ldDA | .ldEB | .ldEC | .ldED | .ldEE | .ldEH | .ldEL | .ldEIndHl | .ldEA
  | .ldHB | .ldHC | .ldHD | .ldHE | .ldHH | .ldHL | .ldHIndHl | .ldHA | .ldLB | .ldLC | .ldLD | .ldLE
  | .ldLH | .ldLL | .ldLIndHl | .ldLA | .halt | .ldAB | .ldAC | .ldAD | .ldAE | .ldAH | .ldAL | .ldAIndHl
  | .ldAA | .addAB | .addAC | .addAD | .addAE | .addAH | .addAL | .addAIndHl | .addAA | .adcAB | .adcAC
  | .adcAD | .adcAE | .adcAH | .adcAL | .adcAIndHl | .adcAA | .subB | .subC | .subD | .subE | .subH
  | .subL | .subIndHl | .subA | .sbcAB | .sbcAC | .sbcAD | .sbcAE | .sbcAH | .sbcAL | .sbcAIndHl | .sbcAA
  | .andB | .andC | .andD | .andE | .andH | .andL | .andIndHl | .andA | .xorB | .xorC | .xorD | .xorE
  | .xorH | .xorL | .xorIndHl | .xorA | .orB | .orC | .orD | .orE | .orH | .orL | .orIndHl | .orA | .cpB
  | .cpC | .cpD | .cpE | .cpH | .cpL | .cpIndHl | .cpA | .retNz | .popBc | .jpNzA16 _ | .jpA16 _
  | .addAD8 _ | .retZ | .ret | .jpZA16 _ | .prefixCb | .adcAD8 _ | .retNc | .popDe | .jpNcA16 _ | .undefD3
  | .subD8 _ | .retC | .reti | .jpCA16 _ | .undefDB | .undefDD | .sbcAD8 _ | .popHl | .undefE3 | .undefE4
  | .andD8 _ | .addSpR8 _ | .jpHl | .undefEB | .undefEC | .undefED | .xorD8 _ | .ldhAIndA8 _ | .popAf
  | .ldAIndC | .di | .undefF4 | .orD8 _ | .ldHlSpR8 _ | .ldSpHl | .ldAIndA16 _ | .ei | .undefFC | .undefFD
  | .cpD8 _ => []

end Sys2Proof.Spec
end

