-- ==== Sys2Proof/Certificates/Slice0/Obligations.lean ====
section
/-! DEFINITION. The statements. In the "SPEC" statements every clause is a numbered rule's; the others name in their
docstrings the decision of 92_eei_decisions.md or the mark of the spec they rest on, and the log entry
(notes/assumptions) that records it. A meaning runs in the state after the fetch of its bytes (`Spec.fetched`),
which `StepRunsDecodedInstruction` ties to `step`. Throughout, `cycles` is a natural number that never wraps (decision
D11, entry 7), and PC, SP and addresses wrap modulo 2^16 (decision D17, entry 20). -/

open Sys2Proof Sys2Proof.Machine Sys2Proof.Spec

/-! ## The machine -/

/-- SPEC R40: the register file after reset, register by register and as pairs, and its flags. -/
def Obligations.ResetGivesPowerOnRegisters : Prop :=
  State.reset.af = 0x01B0 ∧ State.reset.bc = 0x0013 ∧ State.reset.de = 0x00D8 ∧ State.reset.hl = 0x014D ∧
  State.reset.sp = 0xFFFE ∧ State.reset.pc = 0x0100 ∧
  State.reset.a = 0x01 ∧ State.reset.f = 0xB0 ∧ State.reset.b = 0x00 ∧ State.reset.c = 0x13 ∧
  State.reset.d = 0x00 ∧ State.reset.e = 0xD8 ∧ State.reset.h = 0x01 ∧ State.reset.l = 0x4D ∧
  flagZ State.reset.f = true ∧ flagN State.reset.f = false ∧ flagH State.reset.f = true ∧
  flagC State.reset.f = true ∧ State.reset.f &&& 0x0F = 0

/-- The environment between steps: the spec's decision D8 for the three fields of R41 and for a later `reset`
(entry 6), its decision D7 for `WAKE` (entry 9), and the model's own empty bus log (entry 8). -/
def Obligations.EnvironmentActsOnlyAsDecided : Prop :=
  State.reset.opcode = 0x00 ∧ State.reset.cycles = 0 ∧ State.reset.halted = false ∧ State.reset.bus = [] ∧
  ∀ s : State,
    s.after .step = step s ∧
    s.after .reset = .next { State.reset with mem := s.mem } ∧
    s.after .wake = .next { s with halted := false }

/-- When the bytes at PC decode to `i`, a running step is `exec i` in the state after the fetch of exactly the
bytes of `i`; and the three bytes at PC always decode. That the whole instruction is fetched before its meaning runs
is DEDUCED (entry 13); the lengths are those of the opcode map (decision D1, entry 10); the reads in the bus log are
the model's (entry 8); PC wraps by decision D17 (entry 20). -/
def Obligations.StepRunsDecodedInstruction : Prop :=
  (∀ s : State, ∃ i rest, decode (bytesAt s s.pc 3) = .ok i rest) ∧
  ∀ (s : State) (i : Instr) (rest : List Byte),
    s.halted = false → decode (bytesAt s s.pc 3) = .ok i rest →
    wellFormedCode (encode i) = true ∧ step s = exec i (fetched s (encode i).length)

/-- SPEC R147: the idle step, no bus access (the bus log of the step is empty), `cycles` plus 1, all else kept. -/
def Obligations.HaltedStepOnlyCountsOneCycle : Prop :=
  ∀ s : State, s.halted = true → step s = .next { s with cycles := s.cycles + 1, bus := [] }

/-- No fault exists, every instruction completes in every state, and so does every step (60_exceptions.md section 1:
"every handler is expected to complete unconditionally"; the empty type of faults, entry 18). -/
def Obligations.EveryStepCompletes : Prop :=
  (∀ _ : Fault, False) ∧
  (∀ (i : Instr) (s : State), ∃ t, exec i s = .next t) ∧
  ∀ s : State, ∃ t, step s = .next t

/-- `HALT` completes, and the steps after it count one cycle each and change nothing else; opcode 0x76 and the
cost 1 are the spec's decisions D1 and D12 (entries 10, 11), a run of n steps its decision D14 (entry 9). -/
def Obligations.HaltStopsUntilWoken : Prop :=
  Encoded [0x76] .halt ∧
  (∀ s : State, exec .halt s = .next { s with halted := true, cycles := s.cycles + 1 }) ∧
  ∀ (n : Nat) (s : State), s.halted = true →
    s.run (List.replicate n .step) =
      .next { s with cycles := s.cycles + n, bus := if n = 0 then s.bus else [] }

/-- SPEC R35: only `HALT` sets `halted`, no instruction clears it, wake and reset do, and while it is true the
step fetches nothing. -/
def Obligations.HaltedChangesOnlyByHaltWakeReset : Prop :=
  (∀ s t : State, exec .halt s = .next t → t.halted = true) ∧
  (∀ (i : Instr) (s t : State), i ≠ .halt → exec i s = .next t → t.halted = s.halted) ∧
  (∀ s : State, s.wake.halted = false ∧ s.assertReset.halted = false) ∧
  ∀ s t : State, s.halted = true → step s = .next t →
    t.halted = true ∧ t.pc = s.pc ∧ t.opcode = s.opcode ∧ t.bus = []

/-- PC after a step: past the instruction, or at the target of a transfer that is taken (`Spec.controlTarget`), or
unchanged while halted (10_state.md section 3). Lengths, and which `RST` opcode has which target, are the opcode map's
(decision D1, entry 10); that `RETI` has the target of `RET` is decision D6 (entry 10); `JP HL` is general knowledge
(D22, entry 16); PC wraps by decision D17 (entry 20). -/
def Obligations.PcAdvancesPastTheInstructionOrToItsTarget : Prop :=
  (∀ (s : State) (i : Instr) (rest : List Byte),
    s.halted = false → decode (bytesAt s s.pc 3) = .ok i rest →
    ∃ t, step s = .next t ∧
      t.pc = (controlTarget i (fetched s (encode i).length)).getD (s.pc + BitVec.ofNat 16 (encode i).length)) ∧
  (∀ i : Instr, 1 ≤ (encode i).length ∧ (encode i).length ≤ 3) ∧
  ∀ s t : State, s.halted = true → step s = .next t → t.pc = s.pc

/-- Every step charges the cost and makes the bus accesses of the spec's table, and never less than one cycle, so
`cycles` rises with every step: that it never wraps is the spec's decision D11 (entry 7); the costs not in the document
are its decision D12 (entry 11), the log is the model's (entry 8). -/
def Obligations.StepsCostAndAccessAsTabulated : Prop :=
  (∀ (s : State) (i : Instr) (rest : List Byte),
    s.halted = false → decode (bytesAt s s.pc 3) = .ok i rest →
    ∃ t, step s = .next t ∧ t.cycles = s.cycles + costOf i s ∧ t.bus.length = busAccessesOf i s ∧
      1 ≤ busAccessesOf i s ∧ busAccessesOf i s ≤ costOf i s) ∧
  ∀ s t : State, step s = .next t → s.cycles < t.cycles

/-- The invariant of the model is kept by every step: the low nibble of F stays zero (10_state.md R26, which the
spec derives) and the memory keeps its canonical form (the model's choice, entry 2). -/
def Obligations.StepKeepsInvariant : Prop :=
  ∀ s t : State, s.Inv → step s = .next t → t.Inv

/-- The invariant holds after reset (the canonical form of memory is the model's choice, entry 2). -/
def Obligations.ResetMeetsInvariant : Prop := State.reset.Inv

/-- From every state that meets the invariant, any sequence of steps, wakes and resets is carried out to its end
and ends in a state that meets it. The canonical form in the invariant is the model's choice (entry 2); wake and reset
as events between steps are the spec's decisions D7 and D8 (entries 9 and 6). -/
def Obligations.EveryRunIsSafeAndKeepsInvariant : Prop :=
  ∀ (evs : List Event) (s : State), s.Inv → ∃ t, s.run evs = .next t ∧ t.Inv

/-- `cycles`, `opcode` and the bus log are read by nothing: two states that differ only in them take steps to
states that differ only in them, by the same number of cycles (that `opcode` is unread and kept while halted is
derived in 10_state.md; the log is the model's, entry 8). -/
def Obligations.DiagnosticStateIsNeverRead : Prop :=
  ∀ (s t : State) (n : Nat) (op : Byte) (log : List BusAccess), step s = .next t →
    ∃ k, t.cycles = s.cycles + k ∧
      step { s with cycles := n, opcode := op, bus := log } =
        .next { t with cycles := n + k, opcode := if s.halted then op else t.opcode }

/-! ## Encoding -/

/-- Decoding the encoding of an instruction gives it back, with every operand, whatever bytes follow (the opcode
map is the spec's decision D1, entry 10). -/
def Obligations.DecodeOfEncode : Prop :=
  ∀ (i : Instr) (rest : List Byte), decode (encode i ++ rest) = .ok i rest

/-- Every byte string is decoded or rejected by name, each opcode byte alone fixes the length, and what is decoded is
what the encoder writes (lengths and map: decision D1, entry 10). -/
def Obligations.DecoderIsTotalAndExact : Prop :=
  decode [] = .rejected .noOpcode ∧
  (∀ (op : Byte) (tail : List Byte), tail.length + 1 < lengthOfOpcode op →
    decode (op :: tail) = .rejected (.missingOperand op)) ∧
  (∀ (op : Byte) (tail : List Byte), lengthOfOpcode op ≤ tail.length + 1 →
    ∃ i, decode (op :: tail) = .ok i ((op :: tail).drop (lengthOfOpcode op)) ∧
      (encode i).length = lengthOfOpcode op) ∧
  ∀ (bytes : List Byte) (i : Instr) (rest : List Byte), decode bytes = .ok i rest → bytes = encode i ++ rest

/-- Words written out from the encodings of the spec's rules, one or two of every family, decode to what they
stand for (opcode bytes: decision D1, entry 10; 0x3C and 0xC3 are the document's). -/
def Obligations.SpecWordsDecode : Prop :=
  decode [0b00111100] = .ok .incA [] ∧
  decode [0b11000011, 0x34, 0x12] = .ok (.jpA16 0x1234) [] ∧
  decode [0b01000001] = .ok .ldBC [] ∧ decode [0b01110110] = .ok .halt [] ∧
  decode [0b00000110, 0xAB] = .ok (.ldBD8 0xAB) [] ∧ decode [0b00110001, 0xFE, 0xDF] = .ok (.ldSpD16 0xDFFE) [] ∧
  decode [0b00001011] = .ok .decBc [] ∧ decode [0b10011110] = .ok .sbcAIndHl [] ∧
  decode [0b11101110, 0xFF] = .ok (.xorD8 0xFF) [] ∧ decode [0b00101001] = .ok .addHlHl [] ∧
  decode [0b00100000, 0x10] = .ok (.jrNzR8 0x10) [] ∧ decode [0b11011100, 0x00, 0x20] = .ok (.callCA16 0x2000) [] ∧
  decode [0b11110001] = .ok .popAf [] ∧ decode [0b11011111] = .ok .rst18H [] ∧
  decode [0b00101111] = .ok .cpl [] ∧ decode [0b11010011] = .ok .undefD3 [] ∧
  decode [0b11111000, 0x02] = .ok (.ldHlSpR8 0x02) []

/-! ## Registers and flags -/

/-- SPEC R24: the pairs BC, DE, HL have no storage of their own: reading composes the two registers, high byte
first, and writing decomposes the value into them and changes nothing else. -/
def Obligations.PairsAreTheirTwoRegisters : Prop :=
  ∀ (s : State) (v : Word),
    (s.bc.toNat = s.b.toNat * 256 + s.c.toNat ∧ s.de.toNat = s.d.toNat * 256 + s.e.toNat ∧
      s.hl.toNat = s.h.toNat * 256 + s.l.toNat) ∧
    (s.setBc v = { s with b := BitVec.ofNat 8 (v.toNat / 256), c := BitVec.ofNat 8 (v.toNat % 256) } ∧
      s.setDe v = { s with d := BitVec.ofNat 8 (v.toNat / 256), e := BitVec.ofNat 8 (v.toNat % 256) } ∧
      s.setHl v = { s with h := BitVec.ofNat 8 (v.toNat / 256), l := BitVec.ofNat 8 (v.toNat % 256) }) ∧
    ((s.setBc v).bc = v ∧ (s.setDe v).de = v ∧ (s.setHl v).hl = v)

/-- SPEC R25: the pair AF, whose write clears bits 3 to 0 of the byte that goes to F; where F has them zero
(R26), AF reads with bits 3 to 0 zero. -/
def Obligations.AfMasksTheLowNibble : Prop :=
  ∀ (s : State) (v : Word),
    s.af.toNat = s.a.toNat * 256 + s.f.toNat ∧
    s.setAf v = { s with a := BitVec.ofNat 8 (v.toNat / 256), f := BitVec.ofNat 8 (v.toNat % 256) &&& 0xF0 } ∧
    (s.flagsClean → s.af &&& 0x000F = 0)

/-- SPEC R27: the flag accessors are bits 7, 6, 5, 4 of F; writing one flag writes its bit and no other; a list of
flag writes writes the flags it lists and leaves the others and bits 3 to 0. -/
def Obligations.FlagWritesTouchOnlyTheirBits : Prop :=
  (∀ f : Byte, flagZ f = f.getLsbD 7 ∧ flagN f = f.getLsbD 6 ∧ flagH f = f.getLsbD 5 ∧ flagC f = f.getLsbD 4) ∧
  (∀ (f : Byte) (b : Bool) (k j : Nat), 4 ≤ k → k ≤ 7 → j ≤ 7 →
    (writeBit f k b).getLsbD j = if j = k then b else f.getLsbD j) ∧
  ∀ (w : FlagWrite) (f : Byte),
    flagZ (w.apply f) = w.z.getD (flagZ f) ∧ flagN (w.apply f) = w.n.getD (flagN f) ∧
    flagH (w.apply f) = w.h.getD (flagH f) ∧ flagC (w.apply f) = w.c.getD (flagC f) ∧
    ∀ j, j ≤ 3 → (w.apply f).getLsbD j = f.getLsbD j

/-- Every instruction treats the four flags as the flag table marks them, and leaves bits 3 to 0 of F alone, but for
`POP AF`, which clears them (some rows are general knowledge by decision D22, entry 16). -/
def Obligations.FlagsChangeAsTabulated : Prop :=
  ∀ (i : Instr) (s t : State), exec i s = .next t →
    (flagMarks i).1.Allows (flagZ s.f) (flagZ t.f) ∧ (flagMarks i).2.1.Allows (flagN s.f) (flagN t.f) ∧
    (flagMarks i).2.2.1.Allows (flagH s.f) (flagH t.f) ∧ (flagMarks i).2.2.2.Allows (flagC s.f) (flagC t.f) ∧
    t.f &&& 0x0F = if i = .popAf then 0 else s.f &&& 0x0F

/-- The register operations the instruction statements use. Writing an 8-bit register reads back, leaves the six others,
and changes nothing else; writing a pair, or SP, reads back, leaves the three others, and changes nothing but the
registers of pairs; and each `rp` is its own pair or SP (00_scope.md, notation). -/
def Obligations.RegisterFileReadsBack : Prop :=
  (∀ (s : State) (r q : Reg8) (v : Byte), (s.setReg r v).getReg q = if q = r then v else s.getReg q) ∧
  (∀ (s : State) (r : Reg8) (v : Byte),
    s.setReg r v =
      { s with
        a := (s.setReg r v).getReg .a, b := (s.setReg r v).getReg .b, c := (s.setReg r v).getReg .c
        d := (s.setReg r v).getReg .d, e := (s.setReg r v).getReg .e, h := (s.setReg r v).getReg .h
        l := (s.setReg r v).getReg .l }) ∧
  (∀ (s : State) (p q : Pair) (v : Word), (s.setPair p v).getPair q = if q = p then v else s.getPair q) ∧
  (∀ (s : State) (p : Pair) (v : Word),
    s.setPair p v =
      { s with
        b := (s.setPair p v).b, c := (s.setPair p v).c, d := (s.setPair p v).d, e := (s.setPair p v).e
        h := (s.setPair p v).h, l := (s.setPair p v).l, sp := (s.setPair p v).sp }) ∧
  ∀ (s : State) (v : Word),
    s.getPair .bc = s.bc ∧ s.getPair .de = s.de ∧ s.getPair .hl = s.hl ∧ s.getPair .sp = s.sp ∧
    s.setPair .bc v = s.setBc v ∧ s.setPair .de v = s.setDe v ∧ s.setPair .hl v = s.setHl v ∧
    s.setPair .sp v = { s with sp := v }

/-- FRAME of every instruction over the registers: no 8-bit register changes but those of `Spec.regsWritten`, SP
only where `Spec.writesSp` says, `opcode` never, and PC only by a transfer that is taken (each table from the
Operation of the instruction's rule; DEDUCED for the forms that decision D1 supplies, entry 10). -/
def Obligations.RegistersOutsideTheFootprintKeep : Prop :=
  ∀ (i : Instr) (s t : State), exec i s = .next t →
    (∀ r : Reg8, r ∉ regsWritten i → t.getReg r = s.getReg r) ∧
    (writesSp i = false → t.sp = s.sp) ∧
    t.opcode = s.opcode ∧
    (controlTarget i s = none → t.pc = s.pc)

/-! ## Memory -/

/-- FRAME of every instruction over memory: every byte reads as before but at the addresses the instruction stores to
(`Spec.storeAddresses`, computed in the state it runs in), and even there where the region does not store: the video
window by decision D10 (entry 4) and the ROM window by D19 (entry 5). -/
def Obligations.MemoryOutsideTheStoresKeeps : Prop :=
  ∀ (i : Instr) (s t : State) (x : Word), exec i s = .next t →
    (x ∉ storeAddresses i s ∨ storable x = false) → t.readByte x = s.readByte x

/-- No event ever changes a byte of the cartridge image: the default collaborator ignores writes to the ROM window
(decision D19, entry 5), and neither wake (D7, entry 9) nor a later reset (D8, entry 6) touches memory. -/
def Obligations.CartridgeRomIsImmutable : Prop :=
  ∀ (evs : List Event) (s t : State) (x : Word), x.toNat ≤ 0x7FFF → s.run evs = .next t →
    t.readByte x = s.readByte x

/-- Working RAM stores a byte written and reads back the byte last written (20_memory.md section 2); that an address
reads the free value `Config.powerOnByte` before any write is the model's choice (entry 1). -/
def Obligations.WorkingRamKeepsTheLastByteWritten : Prop :=
  ∀ x : Word, 0xC000 ≤ x.toNat → x.toNat ≤ 0xDFFF →
    (∀ (s : State) (v : Byte), (s.memWrite x v).readByte x = v) ∧
    (∀ (s : State) (y : Word) (v : Byte), y ≠ x → (s.memWrite y v).readByte x = s.readByte x) ∧
    State.reset.readByte x = Config.powerOnByte x.toNat

/-- A bus write in every region: stored in cartridge RAM, working RAM and high RAM, and without effect elsewhere; a
write and a read change no register (cartridge RAM and ROM by decisions D20 and D19, entry 5; video by D10,
entry 4). -/
def Obligations.BusWriteStoresByRegion : Prop :=
  ∀ (s : State) (x : Word) (v : Byte),
    Written s.mem (s.memWrite x v).mem x v ∧
    s.memWrite x v = { s with mem := (s.memWrite x v).mem, bus := s.bus ++ [.write x v] } ∧
    s.noteRead x = { s with bus := s.bus ++ [.read x (s.readByte x)] }

/-- The region map: each region is its address range, and everything else is unsupported (the two unsupported ranges
are derived in 20_memory.md, section 2); unsupported addresses and the unbacked video window read 0xFF (decision D9,
entry 3; D10, entry 4), writes there leave memory as it is, and they are exactly what the diagnostic channel reports
(entry 19). -/
def Obligations.RegionMapAndSentinel : Prop :=
  (∀ x : Word,
    (region x = .cartRom ↔ x.toNat ≤ 0x7FFF) ∧
    (region x = .video ↔ 0x8000 ≤ x.toNat ∧ x.toNat ≤ 0x9FFF) ∧
    (region x = .cartRam ↔ 0xA000 ≤ x.toNat ∧ x.toNat ≤ 0xBFFF) ∧
    (region x = .workRam ↔ 0xC000 ≤ x.toNat ∧ x.toNat ≤ 0xDFFF) ∧
    (region x = .highRam ↔ 0xFF80 ≤ x.toNat ∧ x.toNat ≤ 0xFFFE) ∧
    (region x = .unsupported ↔ (0xE000 ≤ x.toNat ∧ x.toNat ≤ 0xFF7F) ∨ x.toNat = 0xFFFF)) ∧
  (∀ (m : Memory) (x : Word) (v : Byte), unbacked x = true → m.readByte x = 0xFF ∧ m.writeByte x v = m) ∧
  ∀ (x : Word) (v : Byte),
    (BusAccess.read x v).reported = unbacked x ∧ (BusAccess.write x v).reported = unbacked x

/-! ## The ALU -/

/-- SPEC R161, R162: 8-bit addition without and with the incoming Carry. -/
def Obligations.AddHelpersFollowTheirContract : Prop :=
  (∀ a b : Byte,
    (add8 a b).result.toNat = (a.toNat + b.toNat) % 256 ∧
    (add8 a b).flags =
      { z := some (decide ((a.toNat + b.toNat) % 256 = 0)), n := some false
        h := some (decide ((a &&& 0xF).toNat + (b &&& 0xF).toNat > 0xF))
        c := some (decide (a.toNat + b.toNat > 0xFF)) }) ∧
  ∀ (a b : Byte) (c : Bool),
    (adc8 a b c).result.toNat = (a.toNat + b.toNat + c.toNat) % 256 ∧
    (adc8 a b c).flags =
      { z := some (decide ((a.toNat + b.toNat + c.toNat) % 256 = 0)), n := some false
        h := some (decide ((a &&& 0xF).toNat + (b &&& 0xF).toNat + c.toNat > 0xF))
        c := some (decide (a.toNat + b.toNat + c.toNat > 0xFF)) }

/-- SPEC R163, R165: 8-bit subtraction and comparison. -/
def Obligations.SubtractHelpersFollowTheirContract : Prop :=
  ∀ a b : Byte,
    (sub8 a b).result.toNat = (a.toNat + 256 - b.toNat) % 256 ∧
    (sub8 a b).flags =
      { z := some (decide ((a.toNat + 256 - b.toNat) % 256 = 0)), n := some true
        h := some (decide ((a &&& 0xF).toNat < (b &&& 0xF).toNat)), c := some (decide (a.toNat < b.toNat)) } ∧
    cp8 a b = (sub8 a b).flags ∧
    cp8 a b =
      { z := some (decide (a = b)), n := some true
        h := some (decide ((a &&& 0xF).toNat < (b &&& 0xF).toNat)), c := some (decide (a.toNat < b.toNat)) }

/-- 8-bit subtraction with the incoming Carry: the two borrow formulas are the spec's own inference from the word
"symmetric" (41_alu_helpers.md, section 2). -/
def Obligations.SubtractWithCarryBorrowsThreeWays : Prop :=
  ∀ (a b : Byte) (c : Bool),
    (sbc8 a b c).result.toNat = (a.toNat + 512 - b.toNat - c.toNat) % 256 ∧
    (sbc8 a b c).flags =
      { z := some (decide ((a.toNat + 512 - b.toNat - c.toNat) % 256 = 0)), n := some true
        h := some (decide ((a &&& 0xF).toNat < (b &&& 0xF).toNat + c.toNat))
        c := some (decide (a.toNat < b.toNat + c.toNat)) }

/-- SPEC R166, R167, R168: the three logic helpers, bit by bit, and their forced flags. -/
def Obligations.LogicHelpersForceTheirFlags : Prop :=
  ∀ a b : Byte,
    (∀ k, k ≤ 7 →
      (and8 a b).result.getLsbD k = (a.getLsbD k && b.getLsbD k) ∧
      (or8 a b).result.getLsbD k = (a.getLsbD k || b.getLsbD k) ∧
      (xor8 a b).result.getLsbD k = (a.getLsbD k != b.getLsbD k)) ∧
    (and8 a b).flags =
      { z := some (decide ((and8 a b).result = 0)), n := some false, h := some true, c := some false } ∧
    (or8 a b).flags =
      { z := some (decide ((or8 a b).result = 0)), n := some false, h := some false, c := some false } ∧
    (xor8 a b).flags =
      { z := some (decide ((xor8 a b).result = 0)), n := some false, h := some false, c := some false }

/-- SPEC R169, R170: 8-bit increment and decrement; Carry is not written; H from the new value, which is the carry
out of (borrow into) the low nibble; the pair restores the value. -/
def Obligations.IncDecHelpersLeaveCarry : Prop :=
  ∀ v : Byte,
    (inc8 v).result.toNat = (v.toNat + 1) % 256 ∧
    (inc8 v).flags =
      { z := some (decide ((inc8 v).result = 0)), n := some false
        h := some (decide ((inc8 v).result &&& 0xF = 0)), c := none } ∧
    ((inc8 v).result &&& 0xF = 0 ↔ v &&& 0xF = 0xF) ∧
    (dec8 v).result.toNat = (v.toNat + 255) % 256 ∧
    (dec8 v).flags =
      { z := some (decide ((dec8 v).result = 0)), n := some true
        h := some (decide ((dec8 v).result &&& 0xF = 0xF)), c := none } ∧
    ((dec8 v).result &&& 0xF = 0xF ↔ v &&& 0xF = 0) ∧
    (dec8 (inc8 v).result).result = v ∧
    ∀ f : Byte, flagC ((dec8 (inc8 v).result).flags.apply ((inc8 v).flags.apply f)) = flagC f

/-- SPEC R171, R173: the two 16-bit additions: H and C at bits 11 and 15 for `add16`, at bits 3 and 7 of the unsigned
low byte for `addsp`, whose result uses the signed displacement. -/
def Obligations.SixteenBitAddHelpersFollowTheirContract : Prop :=
  (∀ a b : Word,
    (add16 a b).result.toNat = (a.toNat + b.toNat) % 65536 ∧
    (add16 a b).flags =
      { z := none, n := some false
        h := some (decide ((a &&& 0x0FFF).toNat + (b &&& 0x0FFF).toNat > 0x0FFF))
        c := some (decide (a.toNat + b.toNat > 0xFFFF)) }) ∧
  ∀ (sp : Word) (d : Byte),
    (addsp sp d).result.toNat = (sp.toNat + if d.toNat < 0x80 then d.toNat else 0xFF00 + d.toNat) % 65536 ∧
    (addsp sp d).flags =
      { z := some false, n := some false
        h := some (decide ((sp &&& 0x000F).toNat + (d &&& 0x0F).toNat > 0x0F))
        c := some (decide ((sp &&& 0x00FF).toNat + d.toNat > 0xFF)) }

/-- The round-trip laws of 41_alu_helpers.md section 8 (the spec derives them): subtraction undoes addition,
decrement and increment undo each other leaving Carry, `addsp` and `add16` give the same result. -/
def Obligations.RoundTripLawsHold : Prop :=
  (∀ a b : Byte, (sub8 (add8 a b).result b).result = a) ∧
  (∀ v : Byte, (dec8 (inc8 v).result).result = v ∧ (inc8 (dec8 v).result).result = v ∧
    (inc8 v).flags.c = none ∧ (dec8 v).flags.c = none) ∧
  (∀ (a v : Byte) (c : Bool), (AluOp.run .cp a v c).result = a) ∧
  ∀ (sp : Word) (d : Byte), (addsp sp d).result = (add16 sp (signExtend16 d)).result

/-- `daa` does what it is for: after the addition or subtraction of two packed-BCD bytes it leaves the packed-BCD
sum or difference modulo 100, with C the decimal carry or borrow and H clear; and it keeps a packed-BCD byte that
needs no adjustment (the thresholds are general knowledge, decision D22, entry 16). -/
def Obligations.DaaAdjustsToPackedBcd : Prop :=
  (∀ a b : Byte, isBcd a = true → isBcd b = true →
    let sum := add8 a b
    let out := daa sum.result false (sum.flags.h.getD false) (sum.flags.c.getD false)
    isBcd out.result = true ∧ bcdValue out.result = (bcdValue a + bcdValue b) % 100 ∧
      out.flags = { z := some (decide ((bcdValue a + bcdValue b) % 100 = 0)), n := none, h := some false
                    c := some (decide (bcdValue a + bcdValue b ≥ 100)) }) ∧
  (∀ a b : Byte, isBcd a = true → isBcd b = true →
    let diff := sub8 a b
    let out := daa diff.result true (diff.flags.h.getD false) (diff.flags.c.getD false)
    isBcd out.result = true ∧ bcdValue out.result = (100 + bcdValue a - bcdValue b) % 100 ∧
      out.flags = { z := some (decide (bcdValue a = bcdValue b)), n := none, h := some false
                    c := some (decide (bcdValue a < bcdValue b)) }) ∧
  ∀ a : Byte, isBcd a = true →
    daa a false false false =
      { result := a, flags := { z := some (decide (a = 0)), n := none, h := some false, c := some false } }

/-! ## The instructions

Each statement gives the encoding, the completion and the whole effect of every form it names: every field of the
state that is not written in the record keeps its value, and memory is described by what every address reads. -/

/-- `LD r,r'` and `LD r,d8`: 56 opcodes (encodings decision D1, entry 10; the cost of `LD r,d8` D12, entry 11). -/
def Obligations.RegisterLoadsComplete : Prop :=
  (∀ (dst src : Reg8) (s : State),
    Encoded [BitVec.ofNat 8 (0x40 + 8 * dst.code + src.code)] (Instr.ldRegReg dst src) ∧
    exec (Instr.ldRegReg dst src) s = .next (({ s with cycles := s.cycles + 1 } : State).setReg dst (s.getReg src))) ∧
  ∀ (dst : Reg8) (v : Byte) (s : State),
    Encoded [BitVec.ofNat 8 (0x06 + 8 * dst.code), v] (Instr.ldRegD8 dst v) ∧
    exec (Instr.ldRegD8 dst v) s = .next (({ s with cycles := s.cycles + 2 } : State).setReg dst v)

/-- The loads of a register from memory: `LD r,(HL)`, `LD A,(BC)`, `LD A,(DE)`, `LD A,(a16)`, `LDH A,(a8)`,
`LD A,(C)`, each with its address, its one data read and its cost (forms and encodings decisions D1 and D22, entries
10 and 16; costs D12, entry 11). -/
def Obligations.LoadsFromMemoryComplete : Prop :=
  (∀ (dst : Reg8) (s : State),
    Encoded [BitVec.ofNat 8 (0x46 + 8 * dst.code)] (Instr.ldRegIndHl dst) ∧
    exec (Instr.ldRegIndHl dst) s = .next
      (({ s with cycles := s.cycles + 2, bus := s.bus ++ [.read s.hl (s.readByte s.hl)] } : State).setReg dst
        (s.readByte s.hl))) ∧
  ∀ (s : State) (a16 : Word) (a8 : Byte),
    (Encoded [0x0A] .ldAIndBc ∧ exec .ldAIndBc s = .next
      { s with a := s.readByte s.bc, cycles := s.cycles + 2, bus := s.bus ++ [.read s.bc (s.readByte s.bc)] }) ∧
    (Encoded [0x1A] .ldAIndDe ∧ exec .ldAIndDe s = .next
      { s with a := s.readByte s.de, cycles := s.cycles + 2, bus := s.bus ++ [.read s.de (s.readByte s.de)] }) ∧
    (Encoded [0xFA, loByte a16, hiByte a16] (.ldAIndA16 a16) ∧ exec (.ldAIndA16 a16) s = .next
      { s with a := s.readByte a16, cycles := s.cycles + 4, bus := s.bus ++ [.read a16 (s.readByte a16)] }) ∧
    (Encoded [0xF0, a8] (.ldhAIndA8 a8) ∧ exec (.ldhAIndA8 a8) s = .next
      { s with
        a := s.readByte (word16 0xFF a8), cycles := s.cycles + 3
        bus := s.bus ++ [.read (word16 0xFF a8) (s.readByte (word16 0xFF a8))] }) ∧
    (Encoded [0xF2] .ldAIndC ∧ exec .ldAIndC s = .next
      { s with
        a := s.readByte (word16 0xFF s.c), cycles := s.cycles + 2
        bus := s.bus ++ [.read (word16 0xFF s.c) (s.readByte (word16 0xFF s.c))] })

/-- The stores of one byte: `LD (HL),r`, `LD (HL),d8`, `LD (BC),A`, `LD (DE),A`, `LD (a16),A`, `LDH (a8),A`,
`LD (C),A`: every other byte of memory, and the byte itself where its region does not store, reads as before (forms
and encodings decisions D1 and D22, entries 10 and 16; costs D12, entry 11; regions D10, D19, D20, entries 4, 5). -/
def Obligations.ByteStoresComplete : Prop :=
  (∀ (src : Reg8) (s : State),
    Encoded [BitVec.ofNat 8 (0x70 + src.code)] (Instr.ldIndHlReg src) ∧
    ∃ m, exec (Instr.ldIndHlReg src) s = .next
        { s with mem := m, cycles := s.cycles + 2, bus := s.bus ++ [.write s.hl (s.getReg src)] } ∧
      Written s.mem m s.hl (s.getReg src)) ∧
  ∀ (s : State) (a16 : Word) (v : Byte),
    (Encoded [0x36, v] (.ldIndHlD8 v) ∧
      ∃ m, exec (.ldIndHlD8 v) s = .next
          { s with mem := m, cycles := s.cycles + 3, bus := s.bus ++ [.write s.hl v] } ∧
        Written s.mem m s.hl v) ∧
    (Encoded [0x02] .ldIndBcA ∧
      ∃ m, exec .ldIndBcA s = .next
          { s with mem := m, cycles := s.cycles + 2, bus := s.bus ++ [.write s.bc s.a] } ∧
        Written s.mem m s.bc s.a) ∧
    (Encoded [0x12] .ldIndDeA ∧
      ∃ m, exec .ldIndDeA s = .next
          { s with mem := m, cycles := s.cycles + 2, bus := s.bus ++ [.write s.de s.a] } ∧
        Written s.mem m s.de s.a) ∧
    (Encoded [0xEA, loByte a16, hiByte a16] (.ldIndA16A a16) ∧
      ∃ m, exec (.ldIndA16A a16) s = .next
          { s with mem := m, cycles := s.cycles + 4, bus := s.bus ++ [.write a16 s.a] } ∧
        Written s.mem m a16 s.a) ∧
    (Encoded [0xE0, v] (.ldhIndA8A v) ∧
      ∃ m, exec (.ldhIndA8A v) s = .next
          { s with mem := m, cycles := s.cycles + 3, bus := s.bus ++ [.write (word16 0xFF v) s.a] } ∧
        Written s.mem m (word16 0xFF v) s.a) ∧
    (Encoded [0xE2] .ldIndCA ∧
      ∃ m, exec .ldIndCA s = .next
          { s with mem := m, cycles := s.cycles + 2, bus := s.bus ++ [.write (word16 0xFF s.c) s.a] } ∧
        Written s.mem m (word16 0xFF s.c) s.a)

/-- `LD A,(HL+)`, `LD A,(HL-)`, `LD (HL+),A`, `LD (HL-),A`: the access at HL, then HL moved by one modulo 2^16
whether or not the write was stored (general knowledge by decisions D1, D12 and D22, entries 10, 11, 16; which regions
store D10, D19, D20, entries 4, 5; the wrap of HL D17, entry 20). -/
def Obligations.PostModifiedLoadsComplete : Prop :=
  ∀ s : State,
    (Encoded [0x2A] .ldAIndHlInc ∧ exec .ldAIndHlInc s = .next
      { s with
        a := s.readByte s.hl, h := hiByte (s.hl + 1), l := loByte (s.hl + 1), cycles := s.cycles + 2
        bus := s.bus ++ [.read s.hl (s.readByte s.hl)] }) ∧
    (Encoded [0x3A] .ldAIndHlDec ∧ exec .ldAIndHlDec s = .next
      { s with
        a := s.readByte s.hl, h := hiByte (s.hl - 1), l := loByte (s.hl - 1), cycles := s.cycles + 2
        bus := s.bus ++ [.read s.hl (s.readByte s.hl)] }) ∧
    (Encoded [0x22] .ldIndHlIncA ∧
      ∃ m, exec .ldIndHlIncA s = .next
          { s with
            h := hiByte (s.hl + 1), l := loByte (s.hl + 1), mem := m, cycles := s.cycles + 2
            bus := s.bus ++ [.write s.hl s.a] } ∧
        Written s.mem m s.hl s.a) ∧
    (Encoded [0x32] .ldIndHlDecA ∧
      ∃ m, exec .ldIndHlDecA s = .next
          { s with
            h := hiByte (s.hl - 1), l := loByte (s.hl - 1), mem := m, cycles := s.cycles + 2
            bus := s.bus ++ [.write s.hl s.a] } ∧
        Written s.mem m s.hl s.a)

/-- The 16-bit moves and counts between registers: `LD rr,d16`, `LD SP,HL`, `INC rr`, `DEC rr`: no flag changes, and
the count wraps modulo 2^16 (that `INC rr` and `DEC rr` write no flag, and `LD SP,HL`, are general knowledge,
decision D22, entry 16; encodings D1, entry 10; costs D12, entry 11). -/
def Obligations.PairLoadsAndCountsComplete : Prop :=
  (∀ (p : Pair) (v : Word) (s : State),
    Encoded [BitVec.ofNat 8 (0x01 + 16 * p.code), loByte v, hiByte v] (Instr.ldPairD16 p v) ∧
    exec (Instr.ldPairD16 p v) s = .next (({ s with cycles := s.cycles + 3 } : State).setPair p v)) ∧
  (∀ s : State, Encoded [0xF9] .ldSpHl ∧ exec .ldSpHl s = .next { s with sp := s.hl, cycles := s.cycles + 2 }) ∧
  ∀ (p : Pair) (s : State),
    (Encoded [BitVec.ofNat 8 (0x03 + 16 * p.code)] (Instr.incPair p) ∧
      exec (Instr.incPair p) s = .next
        (({ s with cycles := s.cycles + 2 } : State).setPair p (BitVec.ofNat 16 ((s.getPair p).toNat + 1)))) ∧
    (Encoded [BitVec.ofNat 8 (0x0B + 16 * p.code)] (Instr.decPair p) ∧
      exec (Instr.decPair p) s = .next
        (({ s with cycles := s.cycles + 2 } : State).setPair p (BitVec.ofNat 16 ((s.getPair p).toNat + 65535))))

/-- `LD (a16),SP`: the low byte at `a16`, the high byte at `a16 + 1` modulo 2^16, each stored by its own region, low
first (general knowledge, decisions D1, D12, D22, entries 10, 11, 16; the order D13, entry 12; which regions store D10,
D19, D20, entries 4, 5; the wrap of the address D17, entry 20). -/
def Obligations.StoreSpCompletes : Prop :=
  ∀ (s : State) (a16 : Word),
    Encoded [0x08, loByte a16, hiByte a16] (.ldIndA16Sp a16) ∧
    ∃ m, exec (.ldIndA16Sp a16) s = .next
        { s with
          mem := m, cycles := s.cycles + 5
          bus := s.bus ++ [.write a16 (loByte s.sp), .write (a16 + 1) (hiByte s.sp)] } ∧
      WrittenTwice s.mem m a16 (loByte s.sp) (a16 + 1) (hiByte s.sp)

/-- `INC r`, `DEC r`, `INC (HL)`, `DEC (HL)`: the new value modulo 2^8, Z from it, N, H from its low nibble, C and bits
3 to 0 of F kept; at HL one read and one write, the flags from the byte read whatever happens to the write (encodings
decision D1, entry 10; costs other than `INC A` D12, entry 11; regions D10, D19, D20, entries 4, 5). -/
def Obligations.EightBitCountsComplete : Prop :=
  (∀ (r : Reg8) (s : State),
    (Encoded [BitVec.ofNat 8 (0x04 + 8 * r.code)] (Instr.incReg r) ∧
      exec (Instr.incReg r) s = .next
        (({ s with
            f := withFlags s.f (decide (s.getReg r + 1 = 0)) false (decide ((s.getReg r + 1) &&& 0xF = 0))
              (s.f.getLsbD 4)
            cycles := s.cycles + 1 } : State).setReg r (s.getReg r + 1))) ∧
    (Encoded [BitVec.ofNat 8 (0x05 + 8 * r.code)] (Instr.decReg r) ∧
      exec (Instr.decReg r) s = .next
        (({ s with
            f := withFlags s.f (decide (s.getReg r - 1 = 0)) true (decide ((s.getReg r - 1) &&& 0xF = 0xF))
              (s.f.getLsbD 4)
            cycles := s.cycles + 1 } : State).setReg r (s.getReg r - 1)))) ∧
  ∀ s : State,
    (Encoded [0x34] .incIndHl ∧
      ∃ m, exec .incIndHl s = .next
          { s with
            f := withFlags s.f (decide (s.readByte s.hl + 1 = 0)) false
              (decide ((s.readByte s.hl + 1) &&& 0xF = 0)) (s.f.getLsbD 4)
            mem := m, cycles := s.cycles + 3
            bus := s.bus ++ [.read s.hl (s.readByte s.hl), .write s.hl (s.readByte s.hl + 1)] } ∧
        Written s.mem m s.hl (s.readByte s.hl + 1)) ∧
    (Encoded [0x35] .decIndHl ∧
      ∃ m, exec .decIndHl s = .next
          { s with
            f := withFlags s.f (decide (s.readByte s.hl - 1 = 0)) true
              (decide ((s.readByte s.hl - 1) &&& 0xF = 0xF)) (s.f.getLsbD 4)
            mem := m, cycles := s.cycles + 3
            bus := s.bus ++ [.read s.hl (s.readByte s.hl), .write s.hl (s.readByte s.hl - 1)] } ∧
        Written s.mem m s.hl (s.readByte s.hl - 1))

/-- `ADD HL,rr`: HL takes the sum modulo 2^16, H and C the carries out of bits 11 and 15, N is cleared, Z kept (forms
and encodings general knowledge, decision D1, entry 10; cost D12, entry 11). -/
def Obligations.AddHlCompletes : Prop :=
  ∀ (p : Pair) (s : State),
    Encoded [BitVec.ofNat 8 (0x09 + 16 * p.code)] (Instr.addHlPair p) ∧
    exec (Instr.addHlPair p) s = .next
      { s with
        h := hiByte (s.hl + s.getPair p), l := loByte (s.hl + s.getPair p)
        f := withFlags s.f (s.f.getLsbD 7) false
          (decide ((s.hl &&& 0x0FFF).toNat + (s.getPair p &&& 0x0FFF).toNat > 0x0FFF))
          (decide (s.hl.toNat + (s.getPair p).toNat > 0xFFFF))
        cycles := s.cycles + 2 }

/-- `ADD A,x` and `ADC A,x` in their register, `(HL)` and `d8` forms (encodings decision D1, entry 10; costs D12,
entry 11). -/
def Obligations.AddAndAddWithCarryComplete : Prop :=
  AccumulatorRows .add (fun a v _ => a + v)
    (fun f a v => withFlags f (decide (a + v = 0)) false
      (decide ((a &&& 0xF).toNat + (v &&& 0xF).toNat > 0xF)) (decide (a.toNat + v.toNat > 0xFF))) ∧
  AccumulatorRows .adc (fun a v c => a + v + BitVec.ofNat 8 c.toNat)
    (fun f a v => withFlags f (decide (a + v + BitVec.ofNat 8 (f.getLsbD 4).toNat = 0)) false
      (decide ((a &&& 0xF).toNat + (v &&& 0xF).toNat + (f.getLsbD 4).toNat > 0xF))
      (decide (a.toNat + v.toNat + (f.getLsbD 4).toNat > 0xFF)))

/-- `SUB x`, `SBC A,x` and `CP x`, which keeps A (encodings decision D1, entry 10; costs D12, entry 11; the borrows of
`SBC` are the spec's inference, 41_alu_helpers.md section 2). -/
def Obligations.SubtractsAndCompareComplete : Prop :=
  AccumulatorRows .sub (fun a v _ => a - v)
    (fun f a v => withFlags f (decide (a = v)) true
      (decide ((a &&& 0xF).toNat < (v &&& 0xF).toNat)) (decide (a.toNat < v.toNat))) ∧
  AccumulatorRows .sbc (fun a v c => a - v - BitVec.ofNat 8 c.toNat)
    (fun f a v => withFlags f (decide (a - v - BitVec.ofNat 8 (f.getLsbD 4).toNat = 0)) true
      (decide ((a &&& 0xF).toNat < (v &&& 0xF).toNat + (f.getLsbD 4).toNat))
      (decide (a.toNat < v.toNat + (f.getLsbD 4).toNat))) ∧
  AccumulatorRows .cp (fun a _ _ => a)
    (fun f a v => withFlags f (decide (a = v)) true
      (decide ((a &&& 0xF).toNat < (v &&& 0xF).toNat)) (decide (a.toNat < v.toNat)))

/-- `AND x`, `XOR x` and `OR x` (encodings decision D1, entry 10; costs D12, entry 11). -/
def Obligations.LogicOperationsComplete : Prop :=
  AccumulatorRows .and (fun a v _ => a &&& v) (fun f a v => withFlags f (decide (a &&& v = 0)) false true false) ∧
  AccumulatorRows .xor (fun a v _ => a ^^^ v) (fun f a v => withFlags f (decide (a = v)) false false false) ∧
  AccumulatorRows .or (fun a v _ => a ||| v)
    (fun f a v => withFlags f (decide (a = 0 ∧ v = 0)) false false false)

/-- `JR r8` and `JR cc,r8`: PC, which holds the address of the next instruction, moves by the signed displacement
modulo 2^16 when taken; 3 cycles taken, 2 not (opcode bytes decision D1, entry 10). -/
def Obligations.RelativeJumpsComplete : Prop :=
  (∀ (d : Byte) (s : State),
    Encoded [0x18, d] (.jrR8 d) ∧
    exec (.jrR8 d) s = .next
      { s with pc := BitVec.ofInt 16 ((s.pc.toNat : Int) + d.toInt), cycles := s.cycles + 3 }) ∧
  ∀ (cc : Cond) (d : Byte) (s : State),
    Encoded [BitVec.ofNat 8 (0x20 + 8 * cc.code), d] (Instr.jrCond cc d) ∧
    (conditionOf s cc = true → exec (Instr.jrCond cc d) s = .next
      { s with pc := BitVec.ofInt 16 ((s.pc.toNat : Int) + d.toInt), cycles := s.cycles + 3 }) ∧
    (conditionOf s cc = false → exec (Instr.jrCond cc d) s = .next { s with cycles := s.cycles + 2 })

/-- `JP a16`: low operand byte first, 4 cycles, to any target; the document's own example with it; and the hazard the
rule names: after a jump to an unbacked address the next step fetches 0xFF, which is `RST 38H` (0xFF is decision D9,
entry 3; the video window D10, entry 4; the opcode byte of `RST 38H` D1, entry 10). -/
def Obligations.AbsoluteJumpCompletes : Prop :=
  (∀ (a16 : Word) (s : State),
    Encoded [0xC3, BitVec.ofNat 8 (a16.toNat % 256), BitVec.ofNat 8 (a16.toNat / 256)] (.jpA16 a16) ∧
    exec (.jpA16 a16) s = .next { s with pc := a16, cycles := s.cycles + 4 }) ∧
  (∀ s : State, s.halted = false → bytesAt s s.pc 3 = [0xC3, 0x34, 0x12] →
    ∃ t, step s = .next t ∧ t.pc = 0x1234 ∧ t.cycles = s.cycles + 4) ∧
  ∀ (a16 : Word) (s : State), unbacked a16 = true → s.halted = false →
    ∃ t u, exec (.jpA16 a16) s = .next t ∧ step t = .next u ∧ u.opcode = 0xFF ∧ u.pc = 0x0038 ∧
      u.sp = s.sp - 2

/-- `JP cc,a16` and `JP HL`, which reads no memory (encodings decision D1, entry 10; costs D12, entry 11; `JP HL`
general knowledge, D22, entry 16). -/
def Obligations.ConditionalAndIndirectJumpsComplete : Prop :=
  (∀ (cc : Cond) (a16 : Word) (s : State),
    Encoded [BitVec.ofNat 8 (0xC2 + 8 * cc.code), loByte a16, hiByte a16] (Instr.jpCond cc a16) ∧
    (conditionOf s cc = true → exec (Instr.jpCond cc a16) s = .next { s with pc := a16, cycles := s.cycles + 4 }) ∧
    (conditionOf s cc = false → exec (Instr.jpCond cc a16) s = .next { s with cycles := s.cycles + 3 })) ∧
  ∀ s : State, Encoded [0xE9] .jpHl ∧ exec .jpHl s = .next { s with pc := s.hl, cycles := s.cycles + 1 }

/-- `CALL a16`, `CALL cc,a16` and `RST n`: the address after the instruction is pushed, high byte at SP - 1 first,
low byte at SP - 2, each stored by its region, and PC takes the target; a condition that is false pushes nothing (order
for these forms decision D13, entry 12; encodings and which `RST` has which target D1, entry 10; costs D12, entry 11;
which regions store D10, D19, D20, entries 4, 5; the wrap of SP D17, entry 20). -/
def Obligations.CallsAndRestartsComplete : Prop :=
  (∀ (a16 : Word) (s : State),
    Encoded [0xCD, loByte a16, hiByte a16] (.callA16 a16) ∧
    ∃ m, exec (.callA16 a16) s = .next
        { s with
          sp := s.sp - 2, pc := a16, mem := m, cycles := s.cycles + 6
          bus := s.bus ++ [.write (s.sp - 1) (hiByte s.pc), .write (s.sp - 2) (loByte s.pc)] } ∧
      WrittenTwice s.mem m (s.sp - 1) (hiByte s.pc) (s.sp - 2) (loByte s.pc)) ∧
  (∀ (cc : Cond) (a16 : Word) (s : State),
    Encoded [BitVec.ofNat 8 (0xC4 + 8 * cc.code), loByte a16, hiByte a16] (Instr.callCond cc a16) ∧
    (conditionOf s cc = true →
      ∃ m, exec (Instr.callCond cc a16) s = .next
          { s with
            sp := s.sp - 2, pc := a16, mem := m, cycles := s.cycles + 6
            bus := s.bus ++ [.write (s.sp - 1) (hiByte s.pc), .write (s.sp - 2) (loByte s.pc)] } ∧
        WrittenTwice s.mem m (s.sp - 1) (hiByte s.pc) (s.sp - 2) (loByte s.pc)) ∧
    (conditionOf s cc = false → exec (Instr.callCond cc a16) s = .next { s with cycles := s.cycles + 3 })) ∧
  ∀ (y : Fin 8) (s : State),
    Encoded [BitVec.ofNat 8 (0xC7 + 8 * y.val)] (Instr.rst y) ∧
    ∃ m, exec (Instr.rst y) s = .next
        { s with
          sp := s.sp - 2, pc := BitVec.ofNat 16 (8 * y.val), mem := m, cycles := s.cycles + 4
          bus := s.bus ++ [.write (s.sp - 1) (hiByte s.pc), .write (s.sp - 2) (loByte s.pc)] } ∧
      WrittenTwice s.mem m (s.sp - 1) (hiByte s.pc) (s.sp - 2) (loByte s.pc)

/-- `RET`, `RETI` (as `RET`: decision D6, entry 10) and `RET cc`: PC from the two bytes at SP, low first (the order for
these forms decision D13, entry 12), SP plus 2; a condition that is false reads no stack byte (encodings D1, entry 10;
costs D12, entry 11; the wrap of SP D17, entry 20). -/
def Obligations.ReturnsComplete : Prop :=
  ∀ s : State,
    (Encoded [0xC9] .ret ∧ exec .ret s = .next
      { s with
        pc := word16 (s.readByte (s.sp + 1)) (s.readByte s.sp), sp := s.sp + 2, cycles := s.cycles + 4
        bus := s.bus ++ [.read s.sp (s.readByte s.sp), .read (s.sp + 1) (s.readByte (s.sp + 1))] }) ∧
    (Encoded [0xD9] .reti ∧ exec .reti s = .next
      { s with
        pc := word16 (s.readByte (s.sp + 1)) (s.readByte s.sp), sp := s.sp + 2, cycles := s.cycles + 4
        bus := s.bus ++ [.read s.sp (s.readByte s.sp), .read (s.sp + 1) (s.readByte (s.sp + 1))] }) ∧
    ∀ cc : Cond,
      Encoded [BitVec.ofNat 8 (0xC0 + 8 * cc.code)] (Instr.retCond cc) ∧
      (conditionOf s cc = true → exec (Instr.retCond cc) s = .next
        { s with
          pc := word16 (s.readByte (s.sp + 1)) (s.readByte s.sp), sp := s.sp + 2, cycles := s.cycles + 5
          bus := s.bus ++ [.read s.sp (s.readByte s.sp), .read (s.sp + 1) (s.readByte (s.sp + 1))] }) ∧
      (conditionOf s cc = false → exec (Instr.retCond cc) s = .next { s with cycles := s.cycles + 2 })

/-- `Push16` and `Pop16`: the addresses, the values, their order, the final SP, and that a pop after a push whose two
bytes are stored gives the value back (where a write is stored and that an unbacked address reads 0xFF are decisions
D9, D10, D19, D20, entries 3, 4, 5; the wrap of SP D17, entry 20). -/
def Obligations.StackPrimitivesFollowTheirContract : Prop :=
  (∀ (s : State) (v : Word),
    ∃ m, s.push16 v =
        { s with
          sp := s.sp - 2, mem := m
          bus := s.bus ++ [.write (s.sp - 1) (BitVec.ofNat 8 (v.toNat / 256)),
            .write (s.sp - 2) (BitVec.ofNat 8 (v.toNat % 256))] } ∧
      WrittenTwice s.mem m (s.sp - 1) (BitVec.ofNat 8 (v.toNat / 256)) (s.sp - 2) (BitVec.ofNat 8 (v.toNat % 256))) ∧
  (∀ s : State,
    s.top16.toNat = (s.readByte (s.sp + 1)).toNat * 256 + (s.readByte s.sp).toNat ∧
    s.dropTop =
      { s with
        sp := s.sp + 2
        bus := s.bus ++ [.read s.sp (s.readByte s.sp), .read (s.sp + 1) (s.readByte (s.sp + 1))] }) ∧
  (∀ s : State, unbacked s.sp = true → unbacked (s.sp + 1) = true → s.top16 = 0xFFFF) ∧
  ∀ (s : State) (v : Word), storable (s.sp - 1) = true → storable (s.sp - 2) = true →
    (s.push16 v).top16 = v ∧ (s.push16 v).dropTop.sp = s.sp

/-- `PUSH rr` for BC, DE, HL, AF: the high register at SP - 1 first, then the low register (F as it is, for AF) at
SP - 2, each stored by its region; `POP rr`: the low register from SP, the high one from SP + 1, with bits 3 to 0 of F
cleared by `POP AF` (encodings decision D1, entry 10; costs D12, entry 11; which regions store D10, D19, D20, entries 4,
5; the wrap of SP D17, entry 20). -/
def Obligations.PushAndPopComplete : Prop :=
  (∀ (p : StackPair) (s : State),
    Encoded [BitVec.ofNat 8 (0xC5 + 16 * p.code)] (Instr.pushPair p) ∧
    ∃ m, exec (Instr.pushPair p) s = .next
        { s with
          sp := s.sp - 2, mem := m, cycles := s.cycles + 4
          bus := s.bus ++ [.write (s.sp - 1) (pairHigh s p), .write (s.sp - 2) (pairLow s p)] } ∧
      WrittenTwice s.mem m (s.sp - 1) (pairHigh s p) (s.sp - 2) (pairLow s p)) ∧
  ∀ s : State,
    let lo := s.readByte s.sp
    let hi := s.readByte (s.sp + 1)
    let log := s.bus ++ [.read s.sp lo, .read (s.sp + 1) hi]
    (Encoded [0xC1] .popBc ∧
      exec .popBc s = .next { s with b := hi, c := lo, sp := s.sp + 2, cycles := s.cycles + 3, bus := log }) ∧
    (Encoded [0xD1] .popDe ∧
      exec .popDe s = .next { s with d := hi, e := lo, sp := s.sp + 2, cycles := s.cycles + 3, bus := log }) ∧
    (Encoded [0xE1] .popHl ∧
      exec .popHl s = .next { s with h := hi, l := lo, sp := s.sp + 2, cycles := s.cycles + 3, bus := log }) ∧
    (Encoded [0xF1] .popAf ∧
      exec .popAf s = .next
        { s with a := hi, f := lo &&& 0xF0, sp := s.sp + 2, cycles := s.cycles + 3, bus := log })

/-- The document's two stack properties, with the premise that both stack bytes lie where writes are stored (45 and 46
note it; regions D20, entry 5): `PUSH` then `POP` of a pair restores it (F with bits 3 to 0 cleared), and `CALL`
then `RET` restores PC and SP. -/
def Obligations.StackRoundTripsRestore : Prop :=
  (∀ (p : StackPair) (s : State), storable (s.sp - 1) = true → storable (s.sp - 2) = true →
    ∃ t u, exec (Instr.pushPair p) s = .next t ∧ exec (Instr.popPair p) t = .next u ∧ u.sp = s.sp ∧
      pairHigh u p = pairHigh s p ∧
      pairLow u p = if p = .af then s.f &&& 0xF0 else pairLow s p) ∧
  ∀ (a16 : Word) (s : State), storable (s.sp - 1) = true → storable (s.sp - 2) = true →
    ∃ t u, exec (.callA16 a16) s = .next t ∧ t.pc = a16 ∧ exec .ret t = .next u ∧ u.pc = s.pc ∧ u.sp = s.sp

/-- `SCF`, `CCF`, `CPL` (what they do to the flags the document does not name is general knowledge, decision D22,
entry 16; encodings D1, entry 10; cost D12, entry 11). -/
def Obligations.CarryAndComplementOpsComplete : Prop :=
  ∀ s : State,
    (Encoded [0x37] .scf ∧ exec .scf s = .next
      { s with f := withFlags s.f (s.f.getLsbD 7) false false true, cycles := s.cycles + 1 }) ∧
    (Encoded [0x3F] .ccf ∧ exec .ccf s = .next
      { s with f := withFlags s.f (s.f.getLsbD 7) false false (!s.f.getLsbD 4), cycles := s.cycles + 1 }) ∧
    (Encoded [0x2F] .cpl ∧ exec .cpl s = .next
      { s with
        a := ~~~s.a, f := withFlags s.f (s.f.getLsbD 7) true true (s.f.getLsbD 4), cycles := s.cycles + 1 })

/-- `DAA` as 41_alu_helpers.md section 6 gives it, in numbers: 6 and 0x60 added or subtracted by the tests on the
incoming A and flags (the thresholds are general knowledge, decision D22, entry 16; encoding D1, entry 10; cost D12,
entry 11). -/
def Obligations.DecimalAdjustCompletes : Prop :=
  ∀ s : State,
    let subtract := s.f.getLsbD 6
    let low : Bool := s.f.getLsbD 5 || (!subtract && decide (s.a.toNat % 16 > 9))
    let high : Bool := s.f.getLsbD 4 || (!subtract && decide (s.a.toNat > 0x99))
    let adj : Nat := (if low then 6 else 0) + (if high then 0x60 else 0)
    let result : Byte := BitVec.ofNat 8 (if subtract then s.a.toNat + 256 - adj else s.a.toNat + adj)
    Encoded [0x27] .daa ∧
    exec .daa s = .next
      { s with
        a := result, f := withFlags s.f (decide (result = 0)) subtract false high, cycles := s.cycles + 1 }

/-- `RLCA`, `RRCA`, `RLA`, `RRA` in numbers; Z, N, H cleared even for a zero result, C the bit moved out (general
knowledge, decisions D1 and D22, entries 10 and 16). -/
def Obligations.AccumulatorRotatesComplete : Prop :=
  ∀ s : State,
    (Encoded [0x07] .rlca ∧ exec .rlca s = .next
      { s with
        a := BitVec.ofNat 8 (s.a.toNat * 2 + (s.a.getLsbD 7).toNat)
        f := withFlags s.f false false false (s.a.getLsbD 7), cycles := s.cycles + 1 }) ∧
    (Encoded [0x0F] .rrca ∧ exec .rrca s = .next
      { s with
        a := BitVec.ofNat 8 (s.a.toNat / 2 + 128 * (s.a.getLsbD 0).toNat)
        f := withFlags s.f false false false (s.a.getLsbD 0), cycles := s.cycles + 1 }) ∧
    (Encoded [0x17] .rla ∧ exec .rla s = .next
      { s with
        a := BitVec.ofNat 8 (s.a.toNat * 2 + (s.f.getLsbD 4).toNat)
        f := withFlags s.f false false false (s.a.getLsbD 7), cycles := s.cycles + 1 }) ∧
    (Encoded [0x1F] .rra ∧ exec .rra s = .next
      { s with
        a := BitVec.ofNat 8 (s.a.toNat / 2 + 128 * (s.f.getLsbD 4).toNat)
        f := withFlags s.f false false false (s.a.getLsbD 0), cycles := s.cycles + 1 })

/-- `NOP`, `STOP`, `DI`, `EI`, the byte 0xCB and the eleven undefined slots change nothing but `cycles`, by one
(0xCB, `STOP`, `DI`, `EI` by decisions D3, D4, D5, entry 10; the list of undefined slots is general knowledge, entry
14; costs D12, entry 11). -/
def Obligations.NoOperationSlotsComplete : Prop :=
  (∀ s : State,
    (Encoded [0x00] .nop ∧ exec .nop s = .next { s with cycles := s.cycles + 1 }) ∧
    (Encoded [0x10] .stop ∧ exec .stop s = .next { s with cycles := s.cycles + 1 }) ∧
    (Encoded [0xF3] .di ∧ exec .di s = .next { s with cycles := s.cycles + 1 }) ∧
    (Encoded [0xFB] .ei ∧ exec .ei s = .next { s with cycles := s.cycles + 1 }) ∧
    (Encoded [0xCB] .prefixCb ∧ exec .prefixCb s = .next { s with cycles := s.cycles + 1 })) ∧
  ∀ (u : UndefSlot) (s : State),
    Encoded [u.byte] (Instr.undef u) ∧ exec (Instr.undef u) s = .next { s with cycles := s.cycles + 1 }

/-- `LD HL,SP+r8` and `ADD SP,r8`: the result from the signed displacement, H and C from the unsigned byte added to the
low byte of SP before the write, Z and N cleared (encodings decision D1, entry 10; costs D12, entry 11). -/
def Obligations.SpRelativeOpsComplete : Prop :=
  ∀ (d : Byte) (s : State),
    let sum := BitVec.ofInt 16 ((s.sp.toNat : Int) + d.toInt)
    let flags := withFlags s.f false false
      (decide ((s.sp &&& 0x000F).toNat + (d &&& 0x0F).toNat > 0x0F))
      (decide ((s.sp &&& 0x00FF).toNat + d.toNat > 0xFF))
    (Encoded [0xF8, d] (.ldHlSpR8 d) ∧ exec (.ldHlSpR8 d) s = .next
      { s with h := hiByte sum, l := loByte sum, f := flags, cycles := s.cycles + 3 }) ∧
    (Encoded [0xE8, d] (.addSpR8 d) ∧ exec (.addSpR8 d) s = .next
      { s with sp := sum, f := flags, cycles := s.cycles + 4 })
end

