-- ==== Sys2Proof/Laws/Decode.lean ====
section
/-! SUPPORT. The decode table against the encoder and against the lengths of 30_encoding.md R110, and
what the byte helpers of operand assembly do. -/

namespace Sys2Proof

/-! ## Words and their bytes -/

theorem word16_toNat (hi lo : Byte) : (word16 hi lo).toNat = hi.toNat * 256 + lo.toNat := by
  rw [word16, BitVec.toNat_append, ← Nat.shiftLeft_add_eq_or_of_lt lo.isLt, Nat.shiftLeft_eq]

theorem hiByte_toNat (v : Word) : (hiByte v).toNat = v.toNat / 256 := by
  have := v.isLt
  simp [hiByte, Nat.shiftRight_eq_div_pow]; omega

theorem loByte_toNat (v : Word) : (loByte v).toNat = v.toNat % 256 := by simp [loByte]

@[simp] theorem hiByte_word16 (hi lo : Byte) : hiByte (word16 hi lo) = hi := by
  apply BitVec.eq_of_toNat_eq; rw [hiByte_toNat, word16_toNat]; omega

@[simp] theorem loByte_word16 (hi lo : Byte) : loByte (word16 hi lo) = lo := by
  apply BitVec.eq_of_toNat_eq; rw [loByte_toNat, word16_toNat]; omega

@[simp] theorem word16_hiByte_loByte (v : Word) : word16 (hiByte v) (loByte v) = v := by
  apply BitVec.eq_of_toNat_eq; rw [word16_toNat, hiByte_toNat, loByte_toNat]; omega

/-! ## The table -/

/-- What an entry of the table must be, given its opcode byte: every instruction it makes is encoded as that
opcode followed by the operand bytes it was made from, low byte first, and its length is the one of R110. -/
def Entry.Agrees (op : Byte) (e : Entry) : Prop :=
  e.length = lengthOfOpcode op ∧
  match e with
  | .op i => encode i = [op]
  | .opD8 mk | .opA8 mk | .opR8 mk => ∀ v, encode (mk v) = [op, v]
  | .opD16 mk | .opA16 mk => ∀ v, encode (mk v) = [op, loByte v, hiByte v]

/-- The entries of a list agree with consecutive opcode bytes. -/
def Entry.AllAgree : Nat → List Entry → Prop
  | _, [] => True
  | n, e :: rest => e.Agrees (BitVec.ofNat 8 n) ∧ Entry.AllAgree (n + 1) rest

theorem Entry.AllAgree.append {n : Nat} {l k : List Entry} (hl : AllAgree n l) (hk : AllAgree (n + l.length) k) :
    AllAgree n (l ++ k) := by
  induction l generalizing n with
  | nil => simpa using hk
  | cons e rest ih =>
    refine ⟨hl.1, ih hl.2 ?_⟩
    rwa [List.length_cons, Nat.add_comm rest.length 1, ← Nat.add_assoc] at hk

theorem Entry.AllAgree.appendRow {n : Nat} {l k : List Entry} (hn : l.length = 16) (hl : AllAgree n l)
    (hk : AllAgree (n + 16) k) : AllAgree n (l ++ k) :=
  hl.append (hn.symm ▸ hk)

theorem Entry.AllAgree.getD {n : Nat} {l : List Entry} (hl : AllAgree n l) {k : Nat} (hk : k < l.length) (e : Entry) :
    (l.getD k e).Agrees (BitVec.ofNat 8 (n + k)) := by
  induction l generalizing n k with
  | nil => simp at hk
  | cons a rest ih =>
    cases k with
    | zero => exact hl.1
    | succ k =>
      have h := ih hl.2 (k := k) (by simpa using hk)
      rwa [Nat.add_assoc, Nat.add_comm 1 k] at h

theorem opcodeRow0_agrees : Entry.AllAgree 0x00 opcodeRow0 := by
  refine ⟨?_, ?_, ?_, ?_, ?_, ?_, ?_, ?_, ?_, ?_, ?_, ?_, ?_, ?_, ?_, ?_, trivial⟩ <;>
    exact ⟨rfl, by first | rfl | exact fun _ => rfl⟩

theorem opcodeRow1_agrees : Entry.AllAgree 0x10 opcodeRow1 := by
  refine ⟨?_, ?_, ?_, ?_, ?_, ?_, ?_, ?_, ?_, ?_, ?_, ?_, ?_, ?_, ?_, ?_, trivial⟩ <;>
    exact ⟨rfl, by first | rfl | exact fun _ => rfl⟩

theorem opcodeRow2_agrees : Entry.AllAgree 0x20 opcodeRow2 := by
  refine ⟨?_, ?_, ?_, ?_, ?_, ?_, ?_, ?_, ?_, ?_, ?_, ?_, ?_, ?_, ?_, ?_, trivial⟩ <;>
    exact ⟨rfl, by first | rfl | exact fun _ => rfl⟩

theorem opcodeRow3_agrees : Entry.AllAgree 0x30 opcodeRow3 := by
  refine ⟨?_, ?_, ?_, ?_, ?_, ?_, ?_, ?_, ?_, ?_, ?_, ?_, ?_, ?_, ?_, ?_, trivial⟩ <;>
    exact ⟨rfl, by first | rfl | exact fun _ => rfl⟩

theorem opcodeRow4_agrees : Entry.AllAgree 0x40 opcodeRow4 := by
  refine ⟨?_, ?_, ?_, ?_, ?_, ?_, ?_, ?_, ?_, ?_, ?_, ?_, ?_, ?_, ?_, ?_, trivial⟩ <;>
    exact ⟨rfl, rfl⟩

theorem opcodeRow5_agrees : Entry.AllAgree 0x50 opcodeRow5 := by
  refine ⟨?_, ?_, ?_, ?_, ?_, ?_, ?_, ?_, ?_, ?_, ?_, ?_, ?_, ?_, ?_, ?_, trivial⟩ <;>
    exact ⟨rfl, rfl⟩

theorem opcodeRow6_agrees : Entry.AllAgree 0x60 opcodeRow6 := by
  refine ⟨?_, ?_, ?_, ?_, ?_, ?_, ?_, ?_, ?_, ?_, ?_, ?_, ?_, ?_, ?_, ?_, trivial⟩ <;>
    exact ⟨rfl, rfl⟩

theorem opcodeRow7_agrees : Entry.AllAgree 0x70 opcodeRow7 := by
  refine ⟨?_, ?_, ?_, ?_, ?_, ?_, ?_, ?_, ?_, ?_, ?_, ?_, ?_, ?_, ?_, ?_, trivial⟩ <;>
    exact ⟨rfl, rfl⟩

theorem opcodeRow8_agrees : Entry.AllAgree 0x80 opcodeRow8 := by
  refine ⟨?_, ?_, ?_, ?_, ?_, ?_, ?_, ?_, ?_, ?_, ?_, ?_, ?_, ?_, ?_, ?_, trivial⟩ <;>
    exact ⟨rfl, rfl⟩

theorem opcodeRow9_agrees : Entry.AllAgree 0x90 opcodeRow9 := by
  refine ⟨?_, ?_, ?_, ?_, ?_, ?_, ?_, ?_, ?_, ?_, ?_, ?_, ?_, ?_, ?_, ?_, trivial⟩ <;>
    exact ⟨rfl, rfl⟩

theorem opcodeRowA_agrees : Entry.AllAgree 0xA0 opcodeRowA := by
  refine ⟨?_, ?_, ?_, ?_, ?_, ?_, ?_, ?_, ?_, ?_, ?_, ?_, ?_, ?_, ?_, ?_, trivial⟩ <;>
    exact ⟨rfl, rfl⟩

theorem opcodeRowB_agrees : Entry.AllAgree 0xB0 opcodeRowB := by
  refine ⟨?_, ?_, ?_, ?_, ?_, ?_, ?_, ?_, ?_, ?_, ?_, ?_, ?_, ?_, ?_, ?_, trivial⟩ <;>
    exact ⟨rfl, rfl⟩

theorem opcodeRowC_agrees : Entry.AllAgree 0xC0 opcodeRowC := by
  refine ⟨?_, ?_, ?_, ?_, ?_, ?_, ?_, ?_, ?_, ?_, ?_, ?_, ?_, ?_, ?_, ?_, trivial⟩ <;>
    exact ⟨rfl, by first | rfl | exact fun _ => rfl⟩

theorem opcodeRowD_agrees : Entry.AllAgree 0xD0 opcodeRowD := by
  refine ⟨?_, ?_, ?_, ?_, ?_, ?_, ?_, ?_, ?_, ?_, ?_, ?_, ?_, ?_, ?_, ?_, trivial⟩ <;>
    exact ⟨rfl, by first | rfl | exact fun _ => rfl⟩

theorem opcodeRowE_agrees : Entry.AllAgree 0xE0 opcodeRowE := by
  refine ⟨?_, ?_, ?_, ?_, ?_, ?_, ?_, ?_, ?_, ?_, ?_, ?_, ?_, ?_, ?_, ?_, trivial⟩ <;>
    exact ⟨rfl, by first | rfl | exact fun _ => rfl⟩

theorem opcodeRowF_agrees : Entry.AllAgree 0xF0 opcodeRowF := by
  refine ⟨?_, ?_, ?_, ?_, ?_, ?_, ?_, ?_, ?_, ?_, ?_, ?_, ?_, ?_, ?_, ?_, trivial⟩ <;>
    exact ⟨rfl, by first | rfl | exact fun _ => rfl⟩

/-- R118: "The table is total over all 256 byte values". -/
theorem opcodeTable_length : opcodeTable.length = 256 := by
  simp only [opcodeTable, List.length_append]
  rfl

theorem opcodeTable_agrees : Entry.AllAgree 0 opcodeTable := by
  simp only [opcodeTable, List.append_assoc]
  refine .appendRow rfl opcodeRow0_agrees ?_
  refine .appendRow rfl opcodeRow1_agrees ?_
  refine .appendRow rfl opcodeRow2_agrees ?_
  refine .appendRow rfl opcodeRow3_agrees ?_
  refine .appendRow rfl opcodeRow4_agrees ?_
  refine .appendRow rfl opcodeRow5_agrees ?_
  refine .appendRow rfl opcodeRow6_agrees ?_
  refine .appendRow rfl opcodeRow7_agrees ?_
  refine .appendRow rfl opcodeRow8_agrees ?_
  refine .appendRow rfl opcodeRow9_agrees ?_
  refine .appendRow rfl opcodeRowA_agrees ?_
  refine .appendRow rfl opcodeRowB_agrees ?_
  refine .appendRow rfl opcodeRowC_agrees ?_
  refine .appendRow rfl opcodeRowD_agrees ?_
  refine .appendRow rfl opcodeRowE_agrees ?_
  exact opcodeRowF_agrees

/-- The entry a byte selects agrees with the encoder and with R110. -/
theorem handler_agrees (op : Byte) : (handler op).Agrees op := by
  have h := opcodeTable_agrees.getD (k := op.toNat) (by rw [opcodeTable_length]; exact op.isLt) (.op .nop)
  rwa [Nat.zero_add, BitVec.ofNat_toNat, BitVec.setWidth_eq] at h

/-- The length of an entry's format is the one of R110. -/
theorem handler_length (op : Byte) : (handler op).length = lengthOfOpcode op := (handler_agrees op).1

/-- What the encoder writes: an opcode byte, and as many bytes after it as R110 says. -/
theorem encode_length (i : Instr) : ∃ op rest, encode i = op :: rest ∧ rest.length + 1 = lengthOfOpcode op := by
  cases i <;> exact ⟨_, _, rfl, rfl⟩

theorem encode_length_pos (i : Instr) : 1 ≤ (encode i).length := by
  obtain ⟨op, rest, h, _⟩ := encode_length i
  simp [h]

/-- Decoding a 16-bit operand written low byte first. -/
theorem decode_opD16 {op : Byte} {mk : Word → Instr} (h : handler op = .opD16 mk) (v : Word) (rest : List Byte) :
    decode (op :: loByte v :: hiByte v :: rest) = .ok (mk v) rest := by
  rw [decode, h, Entry.assemble, word16_hiByte_loByte]

theorem decode_opA16 {op : Byte} {mk : Word → Instr} (h : handler op = .opA16 mk) (v : Word) (rest : List Byte) :
    decode (op :: loByte v :: hiByte v :: rest) = .ok (mk v) rest := by
  rw [decode, h, Entry.assemble, word16_hiByte_loByte]

end Sys2Proof
end

