-- ==== Sys2Proof/Laws/Flags.lean ====
section
/-! SUPPORT. What writing flags does to the flag byte: each flag on its own, the low nibble, and the whole byte. -/

namespace Sys2Proof.Machine

/-- Writing one bit writes that bit only. -/
theorem getLsbD_writeBit (f : Byte) {i : Nat} (hi : i < 8) (b : Bool) (j : Nat) :
    (writeBit f i b).getLsbD j = if j = i then b else f.getLsbD j := by
  unfold writeBit
  by_cases hj : j < 8
  · interval_cases i <;> interval_cases j <;> cases b <;> simp
  · have h1 : j ≠ i := by omega
    rw [BitVec.getLsbD_of_ge _ _ (by omega), if_neg h1, BitVec.getLsbD_of_ge _ _ (by omega)]

/-- Writing one bit, or leaving it. -/
theorem getLsbD_writeBit? (f : Byte) {i : Nat} (hi : i < 8) (b : Option Bool) (j : Nat) :
    (writeBit? f i b).getLsbD j = if j = i then b.getD (f.getLsbD j) else f.getLsbD j := by
  cases b with
  | none => simp [writeBit?]
  | some b => simpa [writeBit?] using getLsbD_writeBit f hi b j

/-- Every bit after a flag write. -/
theorem getLsbD_apply (w : FlagWrite) (f : Byte) (j : Nat) :
    (w.apply f).getLsbD j =
      if j = 4 then w.c.getD (f.getLsbD j) else if j = 5 then w.h.getD (f.getLsbD j)
      else if j = 6 then w.n.getD (f.getLsbD j) else if j = 7 then w.z.getD (f.getLsbD j) else f.getLsbD j := by
  simp only [FlagWrite.apply, getLsbD_writeBit? _ (show 4 < 8 by decide), getLsbD_writeBit? _ (show 5 < 8 by decide),
    getLsbD_writeBit? _ (show 6 < 8 by decide), getLsbD_writeBit? _ (show 7 < 8 by decide)]
  by_cases h4 : j = 4
  · subst h4; simp
  by_cases h5 : j = 5
  · subst h5; simp
  by_cases h6 : j = 6
  · subst h6; simp
  simp [h4, h5, h6]

@[simp] theorem flagZ_apply (w : FlagWrite) (f : Byte) : flagZ (w.apply f) = w.z.getD (flagZ f) :=
  getLsbD_apply w f 7

@[simp] theorem flagN_apply (w : FlagWrite) (f : Byte) : flagN (w.apply f) = w.n.getD (flagN f) :=
  getLsbD_apply w f 6

@[simp] theorem flagH_apply (w : FlagWrite) (f : Byte) : flagH (w.apply f) = w.h.getD (flagH f) :=
  getLsbD_apply w f 5

@[simp] theorem flagC_apply (w : FlagWrite) (f : Byte) : flagC (w.apply f) = w.c.getD (flagC f) :=
  getLsbD_apply w f 4

/-- Flag writes leave bits 3 to 0 alone. -/
theorem getLsbD_apply_low (w : FlagWrite) (f : Byte) {j : Nat} (hj : j < 4) :
    (w.apply f).getLsbD j = f.getLsbD j := by
  simp only [getLsbD_apply, show j ≠ 4 by omega, show j ≠ 5 by omega, show j ≠ 6 by omega, show j ≠ 7 by omega,
    if_false]

@[simp] theorem apply_and_low (w : FlagWrite) (f : Byte) : w.apply f &&& 0x0F = f &&& 0x0F := by
  apply BitVec.eq_of_getLsbD_eq
  intro j hj
  by_cases h : j < 4
  · simp [BitVec.getLsbD_and, getLsbD_apply_low w f h]
  · rw [BitVec.getLsbD_and, BitVec.getLsbD_and]
    interval_cases j <;> simp_all

@[simp] theorem maskFlags_and_low (v : Byte) : maskFlags v &&& 0x0F = 0 := by
  simp [maskFlags, BitVec.and_assoc]

/-- The bits of a flag byte written as a whole. -/
theorem getLsbD_withFlags (f : Byte) (z n h c : Bool) (j : Nat) (hj : j < 8) :
    (Spec.withFlags f z n h c).getLsbD j =
      if j = 7 then z else if j = 6 then n else if j = 5 then h else if j = 4 then c else f.getLsbD j := by
  unfold Spec.withFlags Spec.flagByte
  interval_cases j <;> cases z <;> cases n <;> cases h <;> cases c <;> simp

/-- A flag write, as the flag byte with every flag in its place. -/
theorem apply_eq_withFlags (w : FlagWrite) (f : Byte) :
    w.apply f = Spec.withFlags f (w.z.getD (flagZ f)) (w.n.getD (flagN f)) (w.h.getD (flagH f))
      (w.c.getD (flagC f)) := by
  apply BitVec.eq_of_getLsbD_eq
  intro j hj
  rw [getLsbD_withFlags _ _ _ _ _ _ hj]
  rw [getLsbD_apply]
  split_ifs <;> first | rfl | omega | (subst_vars; rfl)

/-- Writing back every flag as it is changes nothing. -/
theorem withFlags_self (f : Byte) : Spec.withFlags f (flagZ f) (flagN f) (flagH f) (flagC f) = f := by
  apply BitVec.eq_of_getLsbD_eq
  intro j hj
  rw [getLsbD_withFlags _ _ _ _ _ _ hj]
  split_ifs <;> first | rfl | (subst_vars; rfl)

end Sys2Proof.Machine
end

