-- ==== Sys2Proof/Laws/State.lean ====
section
/-! SUPPORT. What each operation on State does to each field of it: one lemma per operation and field, so that
no later proof unfolds a record update. -/

namespace Sys2Proof.Machine

/-! ### `setBc` -/

@[simp] theorem State.setBc_a (s : State) (v : Word) : (s.setBc v).a = s.a := rfl
@[simp] theorem State.setBc_f (s : State) (v : Word) : (s.setBc v).f = s.f := rfl
@[simp] theorem State.setBc_b (s : State) (v : Word) : (s.setBc v).b = hiByte v := rfl
@[simp] theorem State.setBc_c (s : State) (v : Word) : (s.setBc v).c = loByte v := rfl
@[simp] theorem State.setBc_d (s : State) (v : Word) : (s.setBc v).d = s.d := rfl
@[simp] theorem State.setBc_e (s : State) (v : Word) : (s.setBc v).e = s.e := rfl
@[simp] theorem State.setBc_h (s : State) (v : Word) : (s.setBc v).h = s.h := rfl
@[simp] theorem State.setBc_l (s : State) (v : Word) : (s.setBc v).l = s.l := rfl
@[simp] theorem State.setBc_sp (s : State) (v : Word) : (s.setBc v).sp = s.sp := rfl
@[simp] theorem State.setBc_pc (s : State) (v : Word) : (s.setBc v).pc = s.pc := rfl
@[simp] theorem State.setBc_opcode (s : State) (v : Word) : (s.setBc v).opcode = s.opcode := rfl
@[simp] theorem State.setBc_cycles (s : State) (v : Word) : (s.setBc v).cycles = s.cycles := rfl
@[simp] theorem State.setBc_halted (s : State) (v : Word) : (s.setBc v).halted = s.halted := rfl
@[simp] theorem State.setBc_mem (s : State) (v : Word) : (s.setBc v).mem = s.mem := rfl
@[simp] theorem State.setBc_bus (s : State) (v : Word) : (s.setBc v).bus = s.bus := rfl
@[simp] theorem State.setBc_readByte (s : State) (v : Word) (x : Word) :
    (s.setBc v).readByte x = s.readByte x := rfl

/-! ### `setDe` -/

@[simp] theorem State.setDe_a (s : State) (v : Word) : (s.setDe v).a = s.a := rfl
@[simp] theorem State.setDe_f (s : State) (v : Word) : (s.setDe v).f = s.f := rfl
@[simp] theorem State.setDe_b (s : State) (v : Word) : (s.setDe v).b = s.b := rfl
@[simp] theorem State.setDe_c (s : State) (v : Word) : (s.setDe v).c = s.c := rfl
@[simp] theorem State.setDe_d (s : State) (v : Word) : (s.setDe v).d = hiByte v := rfl
@[simp] theorem State.setDe_e (s : State) (v : Word) : (s.setDe v).e = loByte v := rfl
@[simp] theorem State.setDe_h (s : State) (v : Word) : (s.setDe v).h = s.h := rfl
@[simp] theorem State.setDe_l (s : State) (v : Word) : (s.setDe v).l = s.l := rfl
@[simp] theorem State.setDe_sp (s : State) (v : Word) : (s.setDe v).sp = s.sp := rfl
@[simp] theorem State.setDe_pc (s : State) (v : Word) : (s.setDe v).pc = s.pc := rfl
@[simp] theorem State.setDe_opcode (s : State) (v : Word) : (s.setDe v).opcode = s.opcode := rfl
@[simp] theorem State.setDe_cycles (s : State) (v : Word) : (s.setDe v).cycles = s.cycles := rfl
@[simp] theorem State.setDe_halted (s : State) (v : Word) : (s.setDe v).halted = s.halted := rfl
@[simp] theorem State.setDe_mem (s : State) (v : Word) : (s.setDe v).mem = s.mem := rfl
@[simp] theorem State.setDe_bus (s : State) (v : Word) : (s.setDe v).bus = s.bus := rfl
@[simp] theorem State.setDe_readByte (s : State) (v : Word) (x : Word) :
    (s.setDe v).readByte x = s.readByte x := rfl

/-! ### `setHl` -/

@[simp] theorem State.setHl_a (s : State) (v : Word) : (s.setHl v).a = s.a := rfl
@[simp] theorem State.setHl_f (s : State) (v : Word) : (s.setHl v).f = s.f := rfl
@[simp] theorem State.setHl_b (s : State) (v : Word) : (s.setHl v).b = s.b := rfl
@[simp] theorem State.setHl_c (s : State) (v : Word) : (s.setHl v).c = s.c := rfl
@[simp] theorem State.setHl_d (s : State) (v : Word) : (s.setHl v).d = s.d := rfl
@[simp] theorem State.setHl_e (s : State) (v : Word) : (s.setHl v).e = s.e := rfl
@[simp] theorem State.setHl_h (s : State) (v : Word) : (s.setHl v).h = hiByte v := rfl
@[simp] theorem State.setHl_l (s : State) (v : Word) : (s.setHl v).l = loByte v := rfl
@[simp] theorem State.setHl_sp (s : State) (v : Word) : (s.setHl v).sp = s.sp := rfl
@[simp] theorem State.setHl_pc (s : State) (v : Word) : (s.setHl v).pc = s.pc := rfl
@[simp] theorem State.setHl_opcode (s : State) (v : Word) : (s.setHl v).opcode = s.opcode := rfl
@[simp] theorem State.setHl_cycles (s : State) (v : Word) : (s.setHl v).cycles = s.cycles := rfl
@[simp] theorem State.setHl_halted (s : State) (v : Word) : (s.setHl v).halted = s.halted := rfl
@[simp] theorem State.setHl_mem (s : State) (v : Word) : (s.setHl v).mem = s.mem := rfl
@[simp] theorem State.setHl_bus (s : State) (v : Word) : (s.setHl v).bus = s.bus := rfl
@[simp] theorem State.setHl_readByte (s : State) (v : Word) (x : Word) :
    (s.setHl v).readByte x = s.readByte x := rfl

/-! ### `setAf` -/

@[simp] theorem State.setAf_a (s : State) (v : Word) : (s.setAf v).a = hiByte v := rfl
@[simp] theorem State.setAf_f (s : State) (v : Word) : (s.setAf v).f = maskFlags (loByte v) := rfl
@[simp] theorem State.setAf_b (s : State) (v : Word) : (s.setAf v).b = s.b := rfl
@[simp] theorem State.setAf_c (s : State) (v : Word) : (s.setAf v).c = s.c := rfl
@[simp] theorem State.setAf_d (s : State) (v : Word) : (s.setAf v).d = s.d := rfl
@[simp] theorem State.setAf_e (s : State) (v : Word) : (s.setAf v).e = s.e := rfl
@[simp] theorem State.setAf_h (s : State) (v : Word) : (s.setAf v).h = s.h := rfl
@[simp] theorem State.setAf_l (s : State) (v : Word) : (s.setAf v).l = s.l := rfl
@[simp] theorem State.setAf_sp (s : State) (v : Word) : (s.setAf v).sp = s.sp := rfl
@[simp] theorem State.setAf_pc (s : State) (v : Word) : (s.setAf v).pc = s.pc := rfl
@[simp] theorem State.setAf_opcode (s : State) (v : Word) : (s.setAf v).opcode = s.opcode := rfl
@[simp] theorem State.setAf_cycles (s : State) (v : Word) : (s.setAf v).cycles = s.cycles := rfl
@[simp] theorem State.setAf_halted (s : State) (v : Word) : (s.setAf v).halted = s.halted := rfl
@[simp] theorem State.setAf_mem (s : State) (v : Word) : (s.setAf v).mem = s.mem := rfl
@[simp] theorem State.setAf_bus (s : State) (v : Word) : (s.setAf v).bus = s.bus := rfl
@[simp] theorem State.setAf_readByte (s : State) (v : Word) (x : Word) :
    (s.setAf v).readByte x = s.readByte x := rfl

/-! ### `writeFlags` -/

@[simp] theorem State.writeFlags_a (s : State) (w : FlagWrite) : (s.writeFlags w).a = s.a := rfl
@[simp] theorem State.writeFlags_f (s : State) (w : FlagWrite) : (s.writeFlags w).f = w.apply s.f := rfl
@[simp] theorem State.writeFlags_b (s : State) (w : FlagWrite) : (s.writeFlags w).b = s.b := rfl
@[simp] theorem State.writeFlags_c (s : State) (w : FlagWrite) : (s.writeFlags w).c = s.c := rfl
@[simp] theorem State.writeFlags_d (s : State) (w : FlagWrite) : (s.writeFlags w).d = s.d := rfl
@[simp] theorem State.writeFlags_e (s : State) (w : FlagWrite) : (s.writeFlags w).e = s.e := rfl
@[simp] theorem State.writeFlags_h (s : State) (w : FlagWrite) : (s.writeFlags w).h = s.h := rfl
@[simp] theorem State.writeFlags_l (s : State) (w : FlagWrite) : (s.writeFlags w).l = s.l := rfl
@[simp] theorem State.writeFlags_sp (s : State) (w : FlagWrite) : (s.writeFlags w).sp = s.sp := rfl
@[simp] theorem State.writeFlags_pc (s : State) (w : FlagWrite) : (s.writeFlags w).pc = s.pc := rfl
@[simp] theorem State.writeFlags_opcode (s : State) (w : FlagWrite) : (s.writeFlags w).opcode = s.opcode := rfl
@[simp] theorem State.writeFlags_cycles (s : State) (w : FlagWrite) : (s.writeFlags w).cycles = s.cycles := rfl
@[simp] theorem State.writeFlags_halted (s : State) (w : FlagWrite) : (s.writeFlags w).halted = s.halted := rfl
@[simp] theorem State.writeFlags_mem (s : State) (w : FlagWrite) : (s.writeFlags w).mem = s.mem := rfl
@[simp] theorem State.writeFlags_bus (s : State) (w : FlagWrite) : (s.writeFlags w).bus = s.bus := rfl
@[simp] theorem State.writeFlags_readByte (s : State) (w : FlagWrite) (x : Word) :
    (s.writeFlags w).readByte x = s.readByte x := rfl

/-! ### `charge` -/

@[simp] theorem State.charge_a (s : State) (n : Nat) : (s.charge n).a = s.a := rfl
@[simp] theorem State.charge_f (s : State) (n : Nat) : (s.charge n).f = s.f := rfl
@[simp] theorem State.charge_b (s : State) (n : Nat) : (s.charge n).b = s.b := rfl
@[simp] theorem State.charge_c (s : State) (n : Nat) : (s.charge n).c = s.c := rfl
@[simp] theorem State.charge_d (s : State) (n : Nat) : (s.charge n).d = s.d := rfl
@[simp] theorem State.charge_e (s : State) (n : Nat) : (s.charge n).e = s.e := rfl
@[simp] theorem State.charge_h (s : State) (n : Nat) : (s.charge n).h = s.h := rfl
@[simp] theorem State.charge_l (s : State) (n : Nat) : (s.charge n).l = s.l := rfl
@[simp] theorem State.charge_sp (s : State) (n : Nat) : (s.charge n).sp = s.sp := rfl
@[simp] theorem State.charge_pc (s : State) (n : Nat) : (s.charge n).pc = s.pc := rfl
@[simp] theorem State.charge_opcode (s : State) (n : Nat) : (s.charge n).opcode = s.opcode := rfl
@[simp] theorem State.charge_cycles (s : State) (n : Nat) : (s.charge n).cycles = s.cycles + n := rfl
@[simp] theorem State.charge_halted (s : State) (n : Nat) : (s.charge n).halted = s.halted := rfl
@[simp] theorem State.charge_mem (s : State) (n : Nat) : (s.charge n).mem = s.mem := rfl
@[simp] theorem State.charge_bus (s : State) (n : Nat) : (s.charge n).bus = s.bus := rfl
@[simp] theorem State.charge_readByte (s : State) (n : Nat) (x : Word) :
    (s.charge n).readByte x = s.readByte x := rfl

/-! ### `jump` -/

@[simp] theorem State.jump_a (s : State) (t : Word) : (s.jump t).a = s.a := rfl
@[simp] theorem State.jump_f (s : State) (t : Word) : (s.jump t).f = s.f := rfl
@[simp] theorem State.jump_b (s : State) (t : Word) : (s.jump t).b = s.b := rfl
@[simp] theorem State.jump_c (s : State) (t : Word) : (s.jump t).c = s.c := rfl
@[simp] theorem State.jump_d (s : State) (t : Word) : (s.jump t).d = s.d := rfl
@[simp] theorem State.jump_e (s : State) (t : Word) : (s.jump t).e = s.e := rfl
@[simp] theorem State.jump_h (s : State) (t : Word) : (s.jump t).h = s.h := rfl
@[simp] theorem State.jump_l (s : State) (t : Word) : (s.jump t).l = s.l := rfl
@[simp] theorem State.jump_sp (s : State) (t : Word) : (s.jump t).sp = s.sp := rfl
@[simp] theorem State.jump_pc (s : State) (t : Word) : (s.jump t).pc = t := rfl
@[simp] theorem State.jump_opcode (s : State) (t : Word) : (s.jump t).opcode = s.opcode := rfl
@[simp] theorem State.jump_cycles (s : State) (t : Word) : (s.jump t).cycles = s.cycles := rfl
@[simp] theorem State.jump_halted (s : State) (t : Word) : (s.jump t).halted = s.halted := rfl
@[simp] theorem State.jump_mem (s : State) (t : Word) : (s.jump t).mem = s.mem := rfl
@[simp] theorem State.jump_bus (s : State) (t : Word) : (s.jump t).bus = s.bus := rfl
@[simp] theorem State.jump_readByte (s : State) (t : Word) (x : Word) :
    (s.jump t).readByte x = s.readByte x := rfl

/-! ### `noteRead` -/

@[simp] theorem State.noteRead_a (s : State) (r : Word) : (s.noteRead r).a = s.a := rfl
@[simp] theorem State.noteRead_f (s : State) (r : Word) : (s.noteRead r).f = s.f := rfl
@[simp] theorem State.noteRead_b (s : State) (r : Word) : (s.noteRead r).b = s.b := rfl
@[simp] theorem State.noteRead_c (s : State) (r : Word) : (s.noteRead r).c = s.c := rfl
@[simp] theorem State.noteRead_d (s : State) (r : Word) : (s.noteRead r).d = s.d := rfl
@[simp] theorem State.noteRead_e (s : State) (r : Word) : (s.noteRead r).e = s.e := rfl
@[simp] theorem State.noteRead_h (s : State) (r : Word) : (s.noteRead r).h = s.h := rfl
@[simp] theorem State.noteRead_l (s : State) (r : Word) : (s.noteRead r).l = s.l := rfl
@[simp] theorem State.noteRead_sp (s : State) (r : Word) : (s.noteRead r).sp = s.sp := rfl
@[simp] theorem State.noteRead_pc (s : State) (r : Word) : (s.noteRead r).pc = s.pc := rfl
@[simp] theorem State.noteRead_opcode (s : State) (r : Word) : (s.noteRead r).opcode = s.opcode := rfl
@[simp] theorem State.noteRead_cycles (s : State) (r : Word) : (s.noteRead r).cycles = s.cycles := rfl
@[simp] theorem State.noteRead_halted (s : State) (r : Word) : (s.noteRead r).halted = s.halted := rfl
@[simp] theorem State.noteRead_mem (s : State) (r : Word) : (s.noteRead r).mem = s.mem := rfl
@[simp] theorem State.noteRead_bus (s : State) (r : Word) : (s.noteRead r).bus = s.bus ++ [.read r (s.readByte r)] := rfl
@[simp] theorem State.noteRead_readByte (s : State) (r : Word) (x : Word) :
    (s.noteRead r).readByte x = s.readByte x := rfl

/-! ### `memWrite` -/

@[simp] theorem State.memWrite_a (s : State) (x : Word) (v : Byte) : (s.memWrite x v).a = s.a := rfl
@[simp] theorem State.memWrite_f (s : State) (x : Word) (v : Byte) : (s.memWrite x v).f = s.f := rfl
@[simp] theorem State.memWrite_b (s : State) (x : Word) (v : Byte) : (s.memWrite x v).b = s.b := rfl
@[simp] theorem State.memWrite_c (s : State) (x : Word) (v : Byte) : (s.memWrite x v).c = s.c := rfl
@[simp] theorem State.memWrite_d (s : State) (x : Word) (v : Byte) : (s.memWrite x v).d = s.d := rfl
@[simp] theorem State.memWrite_e (s : State) (x : Word) (v : Byte) : (s.memWrite x v).e = s.e := rfl
@[simp] theorem State.memWrite_h (s : State) (x : Word) (v : Byte) : (s.memWrite x v).h = s.h := rfl
@[simp] theorem State.memWrite_l (s : State) (x : Word) (v : Byte) : (s.memWrite x v).l = s.l := rfl
@[simp] theorem State.memWrite_sp (s : State) (x : Word) (v : Byte) : (s.memWrite x v).sp = s.sp := rfl
@[simp] theorem State.memWrite_pc (s : State) (x : Word) (v : Byte) : (s.memWrite x v).pc = s.pc := rfl
@[simp] theorem State.memWrite_opcode (s : State) (x : Word) (v : Byte) : (s.memWrite x v).opcode = s.opcode := rfl
@[simp] theorem State.memWrite_cycles (s : State) (x : Word) (v : Byte) : (s.memWrite x v).cycles = s.cycles := rfl
@[simp] theorem State.memWrite_halted (s : State) (x : Word) (v : Byte) : (s.memWrite x v).halted = s.halted := rfl
@[simp] theorem State.memWrite_mem (s : State) (x : Word) (v : Byte) : (s.memWrite x v).mem = s.mem.writeByte x v := rfl
@[simp] theorem State.memWrite_bus (s : State) (x : Word) (v : Byte) : (s.memWrite x v).bus = s.bus ++ [.write x v] := rfl

/-! ### `push16` -/

@[simp] theorem State.push16_a (s : State) (v : Word) : (s.push16 v).a = s.a := rfl
@[simp] theorem State.push16_f (s : State) (v : Word) : (s.push16 v).f = s.f := rfl
@[simp] theorem State.push16_b (s : State) (v : Word) : (s.push16 v).b = s.b := rfl
@[simp] theorem State.push16_c (s : State) (v : Word) : (s.push16 v).c = s.c := rfl
@[simp] theorem State.push16_d (s : State) (v : Word) : (s.push16 v).d = s.d := rfl
@[simp] theorem State.push16_e (s : State) (v : Word) : (s.push16 v).e = s.e := rfl
@[simp] theorem State.push16_h (s : State) (v : Word) : (s.push16 v).h = s.h := rfl
@[simp] theorem State.push16_l (s : State) (v : Word) : (s.push16 v).l = s.l := rfl
@[simp] theorem State.push16_sp (s : State) (v : Word) : (s.push16 v).sp = s.sp - 2 := rfl
@[simp] theorem State.push16_pc (s : State) (v : Word) : (s.push16 v).pc = s.pc := rfl
@[simp] theorem State.push16_opcode (s : State) (v : Word) : (s.push16 v).opcode = s.opcode := rfl
@[simp] theorem State.push16_cycles (s : State) (v : Word) : (s.push16 v).cycles = s.cycles := rfl
@[simp] theorem State.push16_halted (s : State) (v : Word) : (s.push16 v).halted = s.halted := rfl
@[simp] theorem State.push16_mem (s : State) (v : Word) : (s.push16 v).mem = (s.mem.writeByte (s.sp - 2 + 1) (hiByte v)).writeByte (s.sp - 2) (loByte v) := rfl
@[simp] theorem State.push16_bus (s : State) (v : Word) : (s.push16 v).bus = s.bus ++ [.write (s.sp - 2 + 1) (hiByte v)] ++ [.write (s.sp - 2) (loByte v)] := rfl

/-! ### `dropTop` -/

@[simp] theorem State.dropTop_a (s : State) : (s.dropTop).a = s.a := rfl
@[simp] theorem State.dropTop_f (s : State) : (s.dropTop).f = s.f := rfl
@[simp] theorem State.dropTop_b (s : State) : (s.dropTop).b = s.b := rfl
@[simp] theorem State.dropTop_c (s : State) : (s.dropTop).c = s.c := rfl
@[simp] theorem State.dropTop_d (s : State) : (s.dropTop).d = s.d := rfl
@[simp] theorem State.dropTop_e (s : State) : (s.dropTop).e = s.e := rfl
@[simp] theorem State.dropTop_h (s : State) : (s.dropTop).h = s.h := rfl
@[simp] theorem State.dropTop_l (s : State) : (s.dropTop).l = s.l := rfl
@[simp] theorem State.dropTop_sp (s : State) : (s.dropTop).sp = s.sp + 2 := rfl
@[simp] theorem State.dropTop_pc (s : State) : (s.dropTop).pc = s.pc := rfl
@[simp] theorem State.dropTop_opcode (s : State) : (s.dropTop).opcode = s.opcode := rfl
@[simp] theorem State.dropTop_cycles (s : State) : (s.dropTop).cycles = s.cycles := rfl
@[simp] theorem State.dropTop_halted (s : State) : (s.dropTop).halted = s.halted := rfl
@[simp] theorem State.dropTop_mem (s : State) : (s.dropTop).mem = s.mem := rfl
@[simp] theorem State.dropTop_bus (s : State) : (s.dropTop).bus = s.bus ++ [.read s.sp (s.readByte s.sp)] ++ [.read (s.sp + 1) (s.readByte (s.sp + 1))] := rfl
@[simp] theorem State.dropTop_readByte (s : State) (x : Word) :
    (s.dropTop).readByte x = s.readByte x := rfl

/-! ### `fetch8` -/

@[simp] theorem State.fetch8_a (s : State) : (s.fetch8).a = s.a := rfl
@[simp] theorem State.fetch8_f (s : State) : (s.fetch8).f = s.f := rfl
@[simp] theorem State.fetch8_b (s : State) : (s.fetch8).b = s.b := rfl
@[simp] theorem State.fetch8_c (s : State) : (s.fetch8).c = s.c := rfl
@[simp] theorem State.fetch8_d (s : State) : (s.fetch8).d = s.d := rfl
@[simp] theorem State.fetch8_e (s : State) : (s.fetch8).e = s.e := rfl
@[simp] theorem State.fetch8_h (s : State) : (s.fetch8).h = s.h := rfl
@[simp] theorem State.fetch8_l (s : State) : (s.fetch8).l = s.l := rfl
@[simp] theorem State.fetch8_sp (s : State) : (s.fetch8).sp = s.sp := rfl
@[simp] theorem State.fetch8_pc (s : State) : (s.fetch8).pc = s.pc + 1 := rfl
@[simp] theorem State.fetch8_opcode (s : State) : (s.fetch8).opcode = s.opcode := rfl
@[simp] theorem State.fetch8_cycles (s : State) : (s.fetch8).cycles = s.cycles := rfl
@[simp] theorem State.fetch8_halted (s : State) : (s.fetch8).halted = s.halted := rfl
@[simp] theorem State.fetch8_mem (s : State) : (s.fetch8).mem = s.mem := rfl
@[simp] theorem State.fetch8_bus (s : State) : (s.fetch8).bus = s.bus ++ [.read s.pc (s.readByte s.pc)] := rfl
@[simp] theorem State.fetch8_readByte (s : State) (x : Word) :
    (s.fetch8).readByte x = s.readByte x := rfl

/-! ### `fetchOpcode` -/

@[simp] theorem State.fetchOpcode_a (s : State) : (s.fetchOpcode).a = s.a := rfl
@[simp] theorem State.fetchOpcode_f (s : State) : (s.fetchOpcode).f = s.f := rfl
@[simp] theorem State.fetchOpcode_b (s : State) : (s.fetchOpcode).b = s.b := rfl
@[simp] theorem State.fetchOpcode_c (s : State) : (s.fetchOpcode).c = s.c := rfl
@[simp] theorem State.fetchOpcode_d (s : State) : (s.fetchOpcode).d = s.d := rfl
@[simp] theorem State.fetchOpcode_e (s : State) : (s.fetchOpcode).e = s.e := rfl
@[simp] theorem State.fetchOpcode_h (s : State) : (s.fetchOpcode).h = s.h := rfl
@[simp] theorem State.fetchOpcode_l (s : State) : (s.fetchOpcode).l = s.l := rfl
@[simp] theorem State.fetchOpcode_sp (s : State) : (s.fetchOpcode).sp = s.sp := rfl
@[simp] theorem State.fetchOpcode_pc (s : State) : (s.fetchOpcode).pc = s.pc + 1 := rfl
@[simp] theorem State.fetchOpcode_opcode (s : State) : (s.fetchOpcode).opcode = s.readByte s.pc := rfl
@[simp] theorem State.fetchOpcode_cycles (s : State) : (s.fetchOpcode).cycles = s.cycles := rfl
@[simp] theorem State.fetchOpcode_halted (s : State) : (s.fetchOpcode).halted = s.halted := rfl
@[simp] theorem State.fetchOpcode_mem (s : State) : (s.fetchOpcode).mem = s.mem := rfl
@[simp] theorem State.fetchOpcode_bus (s : State) : (s.fetchOpcode).bus = s.bus ++ [.read s.pc (s.readByte s.pc)] := rfl
@[simp] theorem State.fetchOpcode_readByte (s : State) (x : Word) :
    (s.fetchOpcode).readByte x = s.readByte x := rfl

/-! ### `beginStep` -/

@[simp] theorem State.beginStep_a (s : State) : (s.beginStep).a = s.a := rfl
@[simp] theorem State.beginStep_f (s : State) : (s.beginStep).f = s.f := rfl
@[simp] theorem State.beginStep_b (s : State) : (s.beginStep).b = s.b := rfl
@[simp] theorem State.beginStep_c (s : State) : (s.beginStep).c = s.c := rfl
@[simp] theorem State.beginStep_d (s : State) : (s.beginStep).d = s.d := rfl
@[simp] theorem State.beginStep_e (s : State) : (s.beginStep).e = s.e := rfl
@[simp] theorem State.beginStep_h (s : State) : (s.beginStep).h = s.h := rfl
@[simp] theorem State.beginStep_l (s : State) : (s.beginStep).l = s.l := rfl
@[simp] theorem State.beginStep_sp (s : State) : (s.beginStep).sp = s.sp := rfl
@[simp] theorem State.beginStep_pc (s : State) : (s.beginStep).pc = s.pc := rfl
@[simp] theorem State.beginStep_opcode (s : State) : (s.beginStep).opcode = s.opcode := rfl
@[simp] theorem State.beginStep_cycles (s : State) : (s.beginStep).cycles = s.cycles := rfl
@[simp] theorem State.beginStep_halted (s : State) : (s.beginStep).halted = s.halted := rfl
@[simp] theorem State.beginStep_mem (s : State) : (s.beginStep).mem = s.mem := rfl
@[simp] theorem State.beginStep_bus (s : State) : (s.beginStep).bus = [] := rfl
@[simp] theorem State.beginStep_readByte (s : State) (x : Word) :
    (s.beginStep).readByte x = s.readByte x := rfl

/-! ### `idle` -/

@[simp] theorem State.idle_a (s : State) : (s.idle).a = s.a := rfl
@[simp] theorem State.idle_f (s : State) : (s.idle).f = s.f := rfl
@[simp] theorem State.idle_b (s : State) : (s.idle).b = s.b := rfl
@[simp] theorem State.idle_c (s : State) : (s.idle).c = s.c := rfl
@[simp] theorem State.idle_d (s : State) : (s.idle).d = s.d := rfl
@[simp] theorem State.idle_e (s : State) : (s.idle).e = s.e := rfl
@[simp] theorem State.idle_h (s : State) : (s.idle).h = s.h := rfl
@[simp] theorem State.idle_l (s : State) : (s.idle).l = s.l := rfl
@[simp] theorem State.idle_sp (s : State) : (s.idle).sp = s.sp := rfl
@[simp] theorem State.idle_pc (s : State) : (s.idle).pc = s.pc := rfl
@[simp] theorem State.idle_opcode (s : State) : (s.idle).opcode = s.opcode := rfl
@[simp] theorem State.idle_cycles (s : State) : (s.idle).cycles = s.cycles + 1 := rfl
@[simp] theorem State.idle_halted (s : State) : (s.idle).halted = s.halted := rfl
@[simp] theorem State.idle_mem (s : State) : (s.idle).mem = s.mem := rfl
@[simp] theorem State.idle_bus (s : State) : (s.idle).bus = [] := rfl
@[simp] theorem State.idle_readByte (s : State) (x : Word) :
    (s.idle).readByte x = s.readByte x := rfl

/-! ### `setAcc` -/

@[simp] theorem State.setAcc_a (s : State) (r : Alu8) : (s.setAcc r).a = r.result := rfl
@[simp] theorem State.setAcc_f (s : State) (r : Alu8) : (s.setAcc r).f = r.flags.apply s.f := rfl
@[simp] theorem State.setAcc_b (s : State) (r : Alu8) : (s.setAcc r).b = s.b := rfl
@[simp] theorem State.setAcc_c (s : State) (r : Alu8) : (s.setAcc r).c = s.c := rfl
@[simp] theorem State.setAcc_d (s : State) (r : Alu8) : (s.setAcc r).d = s.d := rfl
@[simp] theorem State.setAcc_e (s : State) (r : Alu8) : (s.setAcc r).e = s.e := rfl
@[simp] theorem State.setAcc_h (s : State) (r : Alu8) : (s.setAcc r).h = s.h := rfl
@[simp] theorem State.setAcc_l (s : State) (r : Alu8) : (s.setAcc r).l = s.l := rfl
@[simp] theorem State.setAcc_sp (s : State) (r : Alu8) : (s.setAcc r).sp = s.sp := rfl
@[simp] theorem State.setAcc_pc (s : State) (r : Alu8) : (s.setAcc r).pc = s.pc := rfl
@[simp] theorem State.setAcc_opcode (s : State) (r : Alu8) : (s.setAcc r).opcode = s.opcode := rfl
@[simp] theorem State.setAcc_cycles (s : State) (r : Alu8) : (s.setAcc r).cycles = s.cycles := rfl
@[simp] theorem State.setAcc_halted (s : State) (r : Alu8) : (s.setAcc r).halted = s.halted := rfl
@[simp] theorem State.setAcc_mem (s : State) (r : Alu8) : (s.setAcc r).mem = s.mem := rfl
@[simp] theorem State.setAcc_bus (s : State) (r : Alu8) : (s.setAcc r).bus = s.bus := rfl
@[simp] theorem State.setAcc_readByte (s : State) (r : Alu8) (x : Word) :
    (s.setAcc r).readByte x = s.readByte x := rfl

/-! ### `accumulate` -/

@[simp] theorem State.accumulate_a (s : State) (op : AluOp) (v : Byte) : (s.accumulate op v).a = (AluOp.run op s.a v (flagC s.f)).result := rfl
@[simp] theorem State.accumulate_f (s : State) (op : AluOp) (v : Byte) : (s.accumulate op v).f = (AluOp.run op s.a v (flagC s.f)).flags.apply s.f := rfl
@[simp] theorem State.accumulate_b (s : State) (op : AluOp) (v : Byte) : (s.accumulate op v).b = s.b := rfl
@[simp] theorem State.accumulate_c (s : State) (op : AluOp) (v : Byte) : (s.accumulate op v).c = s.c := rfl
@[simp] theorem State.accumulate_d (s : State) (op : AluOp) (v : Byte) : (s.accumulate op v).d = s.d := rfl
@[simp] theorem State.accumulate_e (s : State) (op : AluOp) (v : Byte) : (s.accumulate op v).e = s.e := rfl
@[simp] theorem State.accumulate_h (s : State) (op : AluOp) (v : Byte) : (s.accumulate op v).h = s.h := rfl
@[simp] theorem State.accumulate_l (s : State) (op : AluOp) (v : Byte) : (s.accumulate op v).l = s.l := rfl
@[simp] theorem State.accumulate_sp (s : State) (op : AluOp) (v : Byte) : (s.accumulate op v).sp = s.sp := rfl
@[simp] theorem State.accumulate_pc (s : State) (op : AluOp) (v : Byte) : (s.accumulate op v).pc = s.pc := rfl
@[simp] theorem State.accumulate_opcode (s : State) (op : AluOp) (v : Byte) : (s.accumulate op v).opcode = s.opcode := rfl
@[simp] theorem State.accumulate_cycles (s : State) (op : AluOp) (v : Byte) : (s.accumulate op v).cycles = s.cycles := rfl
@[simp] theorem State.accumulate_halted (s : State) (op : AluOp) (v : Byte) : (s.accumulate op v).halted = s.halted := rfl
@[simp] theorem State.accumulate_mem (s : State) (op : AluOp) (v : Byte) : (s.accumulate op v).mem = s.mem := rfl
@[simp] theorem State.accumulate_bus (s : State) (op : AluOp) (v : Byte) : (s.accumulate op v).bus = s.bus := rfl
@[simp] theorem State.accumulate_readByte (s : State) (op : AluOp) (v : Byte) (x : Word) :
    (s.accumulate op v).readByte x = s.readByte x := rfl

/-! ### `assertReset` -/

@[simp] theorem State.assertReset_a (s : State) : s.assertReset.a = State.reset.a := rfl
@[simp] theorem State.assertReset_f (s : State) : s.assertReset.f = State.reset.f := rfl
@[simp] theorem State.assertReset_b (s : State) : s.assertReset.b = State.reset.b := rfl
@[simp] theorem State.assertReset_c (s : State) : s.assertReset.c = State.reset.c := rfl
@[simp] theorem State.assertReset_d (s : State) : s.assertReset.d = State.reset.d := rfl
@[simp] theorem State.assertReset_e (s : State) : s.assertReset.e = State.reset.e := rfl
@[simp] theorem State.assertReset_h (s : State) : s.assertReset.h = State.reset.h := rfl
@[simp] theorem State.assertReset_l (s : State) : s.assertReset.l = State.reset.l := rfl
@[simp] theorem State.assertReset_sp (s : State) : s.assertReset.sp = State.reset.sp := rfl
@[simp] theorem State.assertReset_pc (s : State) : s.assertReset.pc = State.reset.pc := rfl
@[simp] theorem State.assertReset_opcode (s : State) : s.assertReset.opcode = State.reset.opcode := rfl
@[simp] theorem State.assertReset_cycles (s : State) : s.assertReset.cycles = State.reset.cycles := rfl
@[simp] theorem State.assertReset_halted (s : State) : s.assertReset.halted = State.reset.halted := rfl
@[simp] theorem State.assertReset_mem (s : State) : s.assertReset.mem = s.mem := rfl
@[simp] theorem State.assertReset_bus (s : State) : s.assertReset.bus = State.reset.bus := rfl

/-! ### `wake` -/

@[simp] theorem State.wake_a (s : State) : s.wake.a = s.a := by
  unfold State.wake; split <;> rfl
@[simp] theorem State.wake_f (s : State) : s.wake.f = s.f := by
  unfold State.wake; split <;> rfl
@[simp] theorem State.wake_b (s : State) : s.wake.b = s.b := by
  unfold State.wake; split <;> rfl
@[simp] theorem State.wake_c (s : State) : s.wake.c = s.c := by
  unfold State.wake; split <;> rfl
@[simp] theorem State.wake_d (s : State) : s.wake.d = s.d := by
  unfold State.wake; split <;> rfl
@[simp] theorem State.wake_e (s : State) : s.wake.e = s.e := by
  unfold State.wake; split <;> rfl
@[simp] theorem State.wake_h (s : State) : s.wake.h = s.h := by
  unfold State.wake; split <;> rfl
@[simp] theorem State.wake_l (s : State) : s.wake.l = s.l := by
  unfold State.wake; split <;> rfl
@[simp] theorem State.wake_sp (s : State) : s.wake.sp = s.sp := by
  unfold State.wake; split <;> rfl
@[simp] theorem State.wake_pc (s : State) : s.wake.pc = s.pc := by
  unfold State.wake; split <;> rfl
@[simp] theorem State.wake_opcode (s : State) : s.wake.opcode = s.opcode := by
  unfold State.wake; split <;> rfl
@[simp] theorem State.wake_cycles (s : State) : s.wake.cycles = s.cycles := by
  unfold State.wake; split <;> rfl
@[simp] theorem State.wake_halted (s : State) : s.wake.halted = false := by
  unfold State.wake; split <;> simp_all
@[simp] theorem State.wake_mem (s : State) : s.wake.mem = s.mem := by
  unfold State.wake; split <;> rfl
@[simp] theorem State.wake_bus (s : State) : s.wake.bus = s.bus := by
  unfold State.wake; split <;> rfl

/-! ### `setReg` -/

@[simp] theorem State.setReg_f (s : State) (r : Reg8) (v : Byte) : (s.setReg r v).f = s.f := by
  cases r <;> rfl
@[simp] theorem State.setReg_sp (s : State) (r : Reg8) (v : Byte) : (s.setReg r v).sp = s.sp := by
  cases r <;> rfl
@[simp] theorem State.setReg_pc (s : State) (r : Reg8) (v : Byte) : (s.setReg r v).pc = s.pc := by
  cases r <;> rfl
@[simp] theorem State.setReg_opcode (s : State) (r : Reg8) (v : Byte) : (s.setReg r v).opcode = s.opcode := by
  cases r <;> rfl
@[simp] theorem State.setReg_cycles (s : State) (r : Reg8) (v : Byte) : (s.setReg r v).cycles = s.cycles := by
  cases r <;> rfl
@[simp] theorem State.setReg_halted (s : State) (r : Reg8) (v : Byte) : (s.setReg r v).halted = s.halted := by
  cases r <;> rfl
@[simp] theorem State.setReg_mem (s : State) (r : Reg8) (v : Byte) : (s.setReg r v).mem = s.mem := by
  cases r <;> rfl
@[simp] theorem State.setReg_bus (s : State) (r : Reg8) (v : Byte) : (s.setReg r v).bus = s.bus := by
  cases r <;> rfl
@[simp] theorem State.setReg_readByte (s : State) (r : Reg8) (v : Byte) (x : Word) :
    (s.setReg r v).readByte x = s.readByte x := by
  cases r <;> rfl

@[simp] theorem State.setReg_b (s : State) (r : Reg8) (v : Byte) :
    (s.setReg r v).b = if r = .b then v else s.b := by
  cases r <;> rfl
@[simp] theorem State.setReg_c (s : State) (r : Reg8) (v : Byte) :
    (s.setReg r v).c = if r = .c then v else s.c := by
  cases r <;> rfl
@[simp] theorem State.setReg_d (s : State) (r : Reg8) (v : Byte) :
    (s.setReg r v).d = if r = .d then v else s.d := by
  cases r <;> rfl
@[simp] theorem State.setReg_e (s : State) (r : Reg8) (v : Byte) :
    (s.setReg r v).e = if r = .e then v else s.e := by
  cases r <;> rfl
@[simp] theorem State.setReg_h (s : State) (r : Reg8) (v : Byte) :
    (s.setReg r v).h = if r = .h then v else s.h := by
  cases r <;> rfl
@[simp] theorem State.setReg_l (s : State) (r : Reg8) (v : Byte) :
    (s.setReg r v).l = if r = .l then v else s.l := by
  cases r <;> rfl
@[simp] theorem State.setReg_a (s : State) (r : Reg8) (v : Byte) :
    (s.setReg r v).a = if r = .a then v else s.a := by
  cases r <;> rfl

/-! ### `setPair` -/

@[simp] theorem State.setPair_a (s : State) (p : Pair) (v : Word) : (s.setPair p v).a = s.a := by
  cases p <;> rfl
@[simp] theorem State.setPair_f (s : State) (p : Pair) (v : Word) : (s.setPair p v).f = s.f := by
  cases p <;> rfl
@[simp] theorem State.setPair_pc (s : State) (p : Pair) (v : Word) : (s.setPair p v).pc = s.pc := by
  cases p <;> rfl
@[simp] theorem State.setPair_opcode (s : State) (p : Pair) (v : Word) : (s.setPair p v).opcode = s.opcode := by
  cases p <;> rfl
@[simp] theorem State.setPair_cycles (s : State) (p : Pair) (v : Word) : (s.setPair p v).cycles = s.cycles := by
  cases p <;> rfl
@[simp] theorem State.setPair_halted (s : State) (p : Pair) (v : Word) : (s.setPair p v).halted = s.halted := by
  cases p <;> rfl
@[simp] theorem State.setPair_mem (s : State) (p : Pair) (v : Word) : (s.setPair p v).mem = s.mem := by
  cases p <;> rfl
@[simp] theorem State.setPair_bus (s : State) (p : Pair) (v : Word) : (s.setPair p v).bus = s.bus := by
  cases p <;> rfl
@[simp] theorem State.setPair_readByte (s : State) (p : Pair) (v : Word) (x : Word) :
    (s.setPair p v).readByte x = s.readByte x := by
  cases p <;> rfl

/-! ### `setStackPair` -/

@[simp] theorem State.setStackPair_sp (s : State) (p : StackPair) (v : Word) : (s.setStackPair p v).sp = s.sp := by
  cases p <;> rfl
@[simp] theorem State.setStackPair_pc (s : State) (p : StackPair) (v : Word) : (s.setStackPair p v).pc = s.pc := by
  cases p <;> rfl
@[simp] theorem State.setStackPair_opcode (s : State) (p : StackPair) (v : Word) : (s.setStackPair p v).opcode = s.opcode := by
  cases p <;> rfl
@[simp] theorem State.setStackPair_cycles (s : State) (p : StackPair) (v : Word) : (s.setStackPair p v).cycles = s.cycles := by
  cases p <;> rfl
@[simp] theorem State.setStackPair_halted (s : State) (p : StackPair) (v : Word) : (s.setStackPair p v).halted = s.halted := by
  cases p <;> rfl
@[simp] theorem State.setStackPair_mem (s : State) (p : StackPair) (v : Word) : (s.setStackPair p v).mem = s.mem := by
  cases p <;> rfl
@[simp] theorem State.setStackPair_bus (s : State) (p : StackPair) (v : Word) : (s.setStackPair p v).bus = s.bus := by
  cases p <;> rfl
@[simp] theorem State.setStackPair_readByte (s : State) (p : StackPair) (v : Word) (x : Word) :
    (s.setStackPair p v).readByte x = s.readByte x := by
  cases p <;> rfl

/-! ### Reading the code vocabularies -/

@[simp] theorem State.getReg_b (s : State) : s.getReg .b = s.b := rfl
@[simp] theorem State.getReg_c (s : State) : s.getReg .c = s.c := rfl
@[simp] theorem State.getReg_d (s : State) : s.getReg .d = s.d := rfl
@[simp] theorem State.getReg_e (s : State) : s.getReg .e = s.e := rfl
@[simp] theorem State.getReg_h (s : State) : s.getReg .h = s.h := rfl
@[simp] theorem State.getReg_l (s : State) : s.getReg .l = s.l := rfl
@[simp] theorem State.getReg_a (s : State) : s.getReg .a = s.a := rfl
@[simp] theorem State.getPair_bc (s : State) : s.getPair .bc = s.bc := rfl
@[simp] theorem State.getPair_de (s : State) : s.getPair .de = s.de := rfl
@[simp] theorem State.getPair_hl (s : State) : s.getPair .hl = s.hl := rfl
@[simp] theorem State.getPair_sp (s : State) : s.getPair .sp = s.sp := rfl
@[simp] theorem State.getStackPair_bc (s : State) : s.getStackPair .bc = s.bc := rfl
@[simp] theorem State.getStackPair_de (s : State) : s.getStackPair .de = s.de := rfl
@[simp] theorem State.getStackPair_hl (s : State) : s.getStackPair .hl = s.hl := rfl
@[simp] theorem State.getStackPair_af (s : State) : s.getStackPair .af = s.af := rfl

/-- The bytes a state reads are those of its memory. -/
@[simp] theorem State.mem_readByte (s : State) (x : Word) : s.mem.readByte x = s.readByte x := rfl

/-- A state is the record of its fields: two states that agree on every field are equal. -/
theorem State.ext_fields {s t : State} (h : s.a = t.a ∧ s.f = t.f ∧ s.b = t.b ∧ s.c = t.c ∧ s.d = t.d ∧ s.e = t.e ∧
    s.h = t.h ∧ s.l = t.l ∧ s.sp = t.sp ∧ s.pc = t.pc ∧ s.opcode = t.opcode ∧ s.cycles = t.cycles ∧
    s.halted = t.halted ∧ s.mem = t.mem ∧ s.bus = t.bus) : s = t := by
  cases s; cases t; simp_all

/-! ### Pairs read back -/

@[simp] theorem State.bc_setBc (s : State) (v : Word) : (s.setBc v).bc = v := by simp [State.bc]

@[simp] theorem State.de_setDe (s : State) (v : Word) : (s.setDe v).de = v := by simp [State.de]

@[simp] theorem State.hl_setHl (s : State) (v : Word) : (s.setHl v).hl = v := by simp [State.hl]

theorem State.getPair_setPair_self (s : State) (p : Pair) (v : Word) : (s.setPair p v).getPair p = v := by
  cases p <;> simp [State.setPair, State.getPair, State.bc, State.de, State.hl]

end Sys2Proof.Machine
end

