-- ==== Sys2Proof/Laws/Forms.lean ====
section
/-! SUPPORT. Everything each shared form of a meaning does, as one equation: the meanings of `Dispatch.lean` are
these forms at their operands, so a proof about an instruction cites its form's equation and unfolds nothing. -/

namespace Sys2Proof.Machine

/-! ## Loads (42_loads.md) -/

theorem loadRegReg_eq (dst src : Reg8) (s : State) :
    loadRegReg dst src s = ({ s with cycles := s.cycles + 1 } : State).setReg dst (s.getReg src) := by
  cases dst <;> rfl

theorem loadRegFrom_eq (dst : Reg8) (x : Word) (n : Nat) (s : State) :
    loadRegFrom dst x n s =
      ({ s with cycles := s.cycles + n, bus := s.bus ++ [.read x (s.readByte x)] } : State).setReg dst (s.readByte x) := by
  cases dst <;> rfl

theorem loadRegImm_eq (dst : Reg8) (v : Byte) (s : State) :
    loadRegImm dst v s = ({ s with cycles := s.cycles + 2 } : State).setReg dst v := by
  cases dst <;> rfl

theorem storeByte_eq (x : Word) (v : Byte) (n : Nat) (s : State) :
    storeByte x v n s =
      { s with mem := s.mem.writeByte x v, cycles := s.cycles + n, bus := s.bus ++ [.write x v] } := rfl

theorem loadAPost_eq (v : Word) (s : State) :
    loadAPost v s =
      { s with
        a := s.readByte s.hl, h := hiByte v, l := loByte v, cycles := s.cycles + 2
        bus := s.bus ++ [.read s.hl (s.readByte s.hl)] } := rfl

theorem storeAPost_eq (v : Word) (s : State) :
    storeAPost v s =
      { s with
        h := hiByte v, l := loByte v, mem := s.mem.writeByte s.hl s.a, cycles := s.cycles + 2
        bus := s.bus ++ [.write s.hl s.a] } := rfl

theorem loadPairImm_eq (p : Pair) (v : Word) (s : State) :
    loadPairImm p v s = ({ s with cycles := s.cycles + 3 } : State).setPair p v := by
  cases p <;> rfl

theorem loadSpFromHl_eq (s : State) : loadSpFromHl s = { s with sp := s.hl, cycles := s.cycles + 2 } := rfl

theorem storeSp_eq (x : Word) (s : State) :
    storeSp x s =
      { s with
        mem := (s.mem.writeByte x (loByte s.sp)).writeByte (x + 1) (hiByte s.sp), cycles := s.cycles + 5
        bus := s.bus ++ [.write x (loByte s.sp)] ++ [.write (x + 1) (hiByte s.sp)] } := rfl

/-! ## Increment, decrement, arithmetic (43_incdec.md, 44_arith_logic.md) -/

theorem stepReg_eq (op : Byte → Alu8) (r : Reg8) (s : State) :
    stepReg op r s =
      ({ s with f := (op (s.getReg r)).flags.apply s.f, cycles := s.cycles + 1 } : State).setReg r
        (op (s.getReg r)).result := by
  cases r <;> rfl

theorem stepIndHl_eq (op : Byte → Alu8) (s : State) :
    stepIndHl op s =
      { s with
        f := (op (s.readByte s.hl)).flags.apply s.f
        mem := s.mem.writeByte s.hl (op (s.readByte s.hl)).result, cycles := s.cycles + 3
        bus := s.bus ++ [.read s.hl (s.readByte s.hl)] ++ [.write s.hl (op (s.readByte s.hl)).result] } := rfl

theorem stepPair_eq (op : Word → Word) (p : Pair) (s : State) :
    stepPair op p s = ({ s with cycles := s.cycles + 2 } : State).setPair p (op (s.getPair p)) := by
  cases p <;> rfl

theorem aluReg_eq (op : AluOp) (r : Reg8) (s : State) :
    aluReg op r s =
      { s with
        a := (AluOp.run op s.a (s.getReg r) (flagC s.f)).result
        f := (AluOp.run op s.a (s.getReg r) (flagC s.f)).flags.apply s.f, cycles := s.cycles + 1 } := rfl

theorem aluIndHl_eq (op : AluOp) (s : State) :
    aluIndHl op s =
      { s with
        a := (AluOp.run op s.a (s.readByte s.hl) (flagC s.f)).result
        f := (AluOp.run op s.a (s.readByte s.hl) (flagC s.f)).flags.apply s.f, cycles := s.cycles + 2
        bus := s.bus ++ [.read s.hl (s.readByte s.hl)] } := rfl

theorem aluImm_eq (op : AluOp) (v : Byte) (s : State) :
    aluImm op v s =
      { s with
        a := (AluOp.run op s.a v (flagC s.f)).result
        f := (AluOp.run op s.a v (flagC s.f)).flags.apply s.f, cycles := s.cycles + 2 } := rfl

theorem addHl_eq (p : Pair) (s : State) :
    addHl p s =
      { s with
        h := hiByte (add16 s.hl (s.getPair p)).result, l := loByte (add16 s.hl (s.getPair p)).result
        f := (add16 s.hl (s.getPair p)).flags.apply s.f, cycles := s.cycles + 2 } := rfl

/-! ## Jumps, calls, returns (45_jumps_calls_returns.md) -/

theorem jumpRelative_eq (d : Byte) (s : State) :
    jumpRelative d s = { s with pc := s.pc + signExtend16 d, cycles := s.cycles + 3 } := rfl

theorem jumpRelativeIf_eq (cc : Cond) (d : Byte) (s : State) :
    jumpRelativeIf cc d s =
      { s with
        pc := if s.condHolds cc then s.pc + signExtend16 d else s.pc
        cycles := s.cycles + if s.condHolds cc then 3 else 2 } := by
  unfold jumpRelativeIf; split <;> rfl

theorem jumpAbsolute_eq (t : Word) (s : State) :
    jumpAbsolute t s = { s with pc := t, cycles := s.cycles + 4 } := rfl

theorem jumpAbsoluteIf_eq (cc : Cond) (t : Word) (s : State) :
    jumpAbsoluteIf cc t s =
      { s with
        pc := if s.condHolds cc then t else s.pc
        cycles := s.cycles + if s.condHolds cc then 4 else 3 } := by
  unfold jumpAbsoluteIf; split <;> rfl

theorem jumpHl_eq (s : State) : jumpHl s = { s with pc := s.hl, cycles := s.cycles + 1 } := rfl

/-- `Push16(v)` with SP named by its old value (46_stack_and_restart.md R314). -/
theorem push16_eq (v : Word) (s : State) :
    s.push16 v =
      { s with
        sp := s.sp - 2
        mem := (s.mem.writeByte (s.sp - 1) (hiByte v)).writeByte (s.sp - 2) (loByte v)
        bus := s.bus ++ [.write (s.sp - 1) (hiByte v), .write (s.sp - 2) (loByte v)] } := by
  have h : s.sp - 2#16 + 1#16 = s.sp - 1#16 := by bv_omega
  apply State.ext_fields
  simp [h]

theorem callAbsolute_eq (t : Word) (s : State) :
    callAbsolute t s = { s.push16 s.pc with pc := t, cycles := s.cycles + 6 } := rfl

theorem callAbsoluteIf_eq (cc : Cond) (t : Word) (s : State) :
    callAbsoluteIf cc t s =
      { s with
        sp := if s.condHolds cc then s.sp - 2 else s.sp
        pc := if s.condHolds cc then t else s.pc
        cycles := s.cycles + if s.condHolds cc then 6 else 3
        mem := if s.condHolds cc then (s.push16 s.pc).mem else s.mem
        bus := if s.condHolds cc then (s.push16 s.pc).bus else s.bus } := by
  unfold callAbsoluteIf; split <;> rfl

theorem returnFromCall_eq (s : State) :
    returnFromCall s = { s.dropTop with pc := s.top16, cycles := s.cycles + 4 } := rfl

theorem returnIf_eq (cc : Cond) (s : State) :
    returnIf cc s =
      { s with
        sp := if s.condHolds cc then s.sp + 2 else s.sp
        pc := if s.condHolds cc then s.top16 else s.pc
        cycles := s.cycles + if s.condHolds cc then 5 else 2
        bus := if s.condHolds cc then s.dropTop.bus else s.bus } := by
  unfold returnIf; split <;> rfl

/-! ## The stack (46_stack_and_restart.md) -/

theorem pushPair_eq (p : StackPair) (s : State) :
    pushPair p s = { s.push16 (s.getStackPair p) with cycles := s.cycles + 4 } := rfl

theorem popPair_eq (p : StackPair) (s : State) :
    popPair p s = ({ s.dropTop with cycles := s.cycles + 3 } : State).setStackPair p s.top16 := by
  cases p <;> rfl

theorem restart_eq (y : Fin 8) (s : State) :
    restart y s = { s.push16 s.pc with pc := restartTarget y, cycles := s.cycles + 4 } := rfl

/-! ## Flag and accumulator operations, system, SP-relative (47, 48, 49) -/

theorem setCarry_eq (s : State) :
    setCarry s =
      { s with
        f := FlagWrite.apply { z := none, n := some false, h := some false, c := some true } s.f
        cycles := s.cycles + 1 } := rfl

theorem complementCarry_eq (s : State) :
    complementCarry s =
      { s with
        f := FlagWrite.apply { z := none, n := some false, h := some false, c := some (!flagC s.f) } s.f
        cycles := s.cycles + 1 } := rfl

theorem complementA_eq (s : State) :
    complementA s =
      { s with
        a := s.a ^^^ 0xFF
        f := FlagWrite.apply { z := none, n := some true, h := some true, c := none } s.f
        cycles := s.cycles + 1 } := rfl

theorem adjustA_eq (out : Alu8) (s : State) :
    adjustA out s = { s with a := out.result, f := out.flags.apply s.f, cycles := s.cycles + 1 } := rfl

theorem noOperation_eq (n : Nat) (s : State) : noOperation n s = { s with cycles := s.cycles + n } := rfl

theorem enterHalted_eq (s : State) : enterHalted s = { s with halted := true, cycles := s.cycles + 1 } := rfl

theorem loadHlSpPlus_eq (d : Byte) (s : State) :
    loadHlSpPlus d s =
      { s with
        h := hiByte (addsp s.sp d).result, l := loByte (addsp s.sp d).result
        f := (addsp s.sp d).flags.apply s.f, cycles := s.cycles + 3 } := rfl

theorem addToSp_eq (d : Byte) (s : State) :
    addToSp d s =
      { s with sp := (addsp s.sp d).result, f := (addsp s.sp d).flags.apply s.f, cycles := s.cycles + 4 } := rfl

end Sys2Proof.Machine
end

