-- ==== Sys2Proof/Laws/Memory.lean ====
section
/-! SUPPORT. What the memory operations do: reading after writing, the canonical form, and the address ranges
behind the region map. -/

namespace Sys2Proof.Machine

/-! ## The region map as address ranges -/

theorem storesAt_eq_storable (x : Word) : storesAt x = Spec.storable x := by
  have := x.isLt
  rw [Bool.eq_iff_iff]
  simp only [storesAt, region, Spec.storable, Bool.or_eq_true, Bool.and_eq_true, decide_eq_true_eq]
  split_ifs <;> simp [Region.stores, busConfig] <;> omega

theorem backedAt_eq_not_unbacked (x : Word) : backedAt x = !Spec.unbacked x := by
  have := x.isLt
  rw [Bool.eq_iff_iff]
  simp only [backedAt, region, Spec.unbacked, Bool.not_eq_true', Bool.or_eq_false_iff, Bool.and_eq_false_iff,
    decide_eq_false_iff_not]
  split_ifs <;> simp [Region.backed, busConfig] <;> omega

/-- Where a write is stored there is a byte to store it in. -/
theorem backedAt_of_storesAt {x : Word} (h : storesAt x = true) : backedAt x = true := by
  unfold storesAt at h
  unfold backedAt
  cases hr : region x <;> simp_all [Region.stores, Region.backed, busConfig]

/-! ## Cells -/

theorem Memory.lookup_insert (m : Memory) (n k : Nat) (v : Byte) :
    (Memory.insert m n v).lookup k = if k = n then some v else m.lookup k := by
  induction m with
  | nil => simp [Memory.insert, Memory.lookup, eq_comm]
  | cons x rest ih =>
    obtain ⟨j, w⟩ := x
    rcases Nat.lt_trichotomy j n with h | h | h
    · have hjn : ¬n = j := by omega
      simp only [Memory.insert, h, if_true, Memory.lookup, ih]
      by_cases hk : k = n
      · subst hk; simp [Ne.symm hjn]
      · simp [hk]
    · subst h
      by_cases hk : k = j
      · simp [Memory.insert, Memory.lookup, hk]
      · simp [Memory.insert, Memory.lookup, hk, Ne.symm hk]
    · have h1 : ¬j < n := by omega
      have h2 : ¬j = n := by omega
      by_cases hk : k = n
      · simp [Memory.insert, Memory.lookup, h1, h2, hk]
      · simp [Memory.insert, Memory.lookup, h1, h2, hk, Ne.symm hk]

theorem Memory.mem_insert {m : Memory} {n : Nat} {v : Byte} {x : Host.Cell} (h : x ∈ Memory.insert m n v) :
    x = (n, v) ∨ x ∈ m := by
  induction m with
  | nil => simpa [Memory.insert] using h
  | cons y rest ih =>
    obtain ⟨j, w⟩ := y
    simp only [Memory.insert] at h
    split_ifs at h
    · rcases List.mem_cons.1 h with h | h
      · exact .inr (h ▸ List.mem_cons_self ..)
      · exact (ih h).imp id (List.mem_cons_of_mem _)
    · rcases List.mem_cons.1 h with h | h
      · exact .inl h
      · exact .inr (List.mem_cons_of_mem _ h)
    · exact (List.mem_cons.1 h)

/-- Listing a byte for a backed address keeps the canonical form. -/
theorem Memory.wf_insert {m : Memory} (hm : Memory.wf m) {x : Word} (hx : backedAt x = true) (v : Byte) :
    Memory.wf (Memory.insert m x.toNat v) := by
  refine ⟨?_, fun y hy => ?_⟩
  · have h := hm.1
    clear hm
    induction m with
    | nil => simp [Memory.insert]
    | cons y rest ih =>
      obtain ⟨j, w⟩ := y
      have hr := List.pairwise_cons.1 h
      simp only [Memory.insert]
      split_ifs with h1 h2
      · refine List.pairwise_cons.2 ⟨fun z hz => ?_, ih hr.2⟩
        rcases Memory.mem_insert hz with rfl | hz
        · exact h1
        · exact hr.1 z hz
      · subst h2
        exact List.pairwise_cons.2 ⟨fun z hz => hr.1 z hz, hr.2⟩
      · refine List.pairwise_cons.2 ⟨fun z hz => ?_, h⟩
        rcases List.mem_cons.1 hz with rfl | hz
        · show x.toNat < j; omega
        · have := hr.1 z hz
          show x.toNat < z.1
          have h3 : j < z.1 := this
          omega
  · rcases Memory.mem_insert hy with rfl | hy
    · exact ⟨x.isLt, by simpa using hx⟩
    · exact hm.2 y hy

/-! ## Bytes -/

/-- Every read after a write: the byte written where the write is stored, and as before everywhere else. -/
theorem Memory.readByte_writeByte (m : Memory) (x y : Word) (v : Byte) :
    (m.writeByte x v).readByte y = if y = x ∧ storesAt x = true then v else m.readByte y := by
  by_cases hs : storesAt x = true
  · simp only [Memory.writeByte, hs, if_true, and_true, Memory.readByte, Memory.lookup_insert]
    by_cases hxy : y = x
    · subst hxy; simp [backedAt_of_storesAt hs]
    · simp [hxy, BitVec.toNat_inj]
  · simp [Memory.writeByte, hs]

theorem Memory.readByte_writeByte_ne (m : Memory) {x y : Word} (v : Byte) (h : y ≠ x) :
    (m.writeByte x v).readByte y = m.readByte y := by
  simp [Memory.readByte_writeByte, h]

/-- A write keeps the canonical form. -/
theorem Memory.wf_writeByte {m : Memory} (hm : Memory.wf m) (x : Word) (v : Byte) : Memory.wf (m.writeByte x v) := by
  unfold Memory.writeByte
  split
  · exact Memory.wf_insert hm (backedAt_of_storesAt ‹_›) v
  · exact hm

/-- Loading code where it fits keeps the canonical form. -/
theorem Memory.wf_load {m : Memory} (hm : Memory.wf m) (x : Word) (code : List Byte)
    (hc : codeFits code.length x = true) : Memory.wf (m.load x code) := by
  induction code generalizing m x with
  | nil => exact hm
  | cons v rest ih =>
    simp only [List.length_cons, codeFits, Bool.and_eq_true] at hc
    exact ih (Memory.wf_insert hm hc.1 v) _ hc.2

/-- Every memory operation of the machine keeps the canonical form. -/
theorem State.wf_memWrite {s : State} (hs : Memory.wf s.mem) (x : Word) (v : Byte) : Memory.wf (s.memWrite x v).mem := by
  simpa using Memory.wf_writeByte hs x v

theorem State.wf_push16 {s : State} (hs : Memory.wf s.mem) (v : Word) : Memory.wf (s.push16 v).mem := by
  simpa using Memory.wf_writeByte (Memory.wf_writeByte hs _ _) _ _

/-- Reset lists nothing, which is canonical. -/
theorem reset_mem_wf : Memory.wf State.reset.mem := ⟨List.Pairwise.nil, fun _ h => absurd h (List.not_mem_nil)⟩

/-- A byte read after `memWrite`. -/
theorem State.readByte_memWrite (s : State) (x y : Word) (v : Byte) :
    (s.memWrite x v).readByte y = if y = x ∧ storesAt x = true then v else s.readByte y :=
  Memory.readByte_writeByte s.mem x y v

/-- A byte read after `Push16`: the two stack slots, and as before everywhere else. -/
theorem State.readByte_push16 (s : State) (v : Word) (y : Word) :
    (s.push16 v).readByte y =
      if y = s.sp - 2 ∧ storesAt (s.sp - 2) = true then loByte v
      else if y = s.sp - 1 ∧ storesAt (s.sp - 1) = true then hiByte v
      else s.readByte y := by
  have h : s.sp - 2 + 1 = s.sp - 1 := by bv_omega
  show ((s.mem.writeByte (s.sp - 2 + 1) (hiByte v)).writeByte (s.sp - 2) (loByte v)).readByte y = _
  rw [Memory.readByte_writeByte, Memory.readByte_writeByte, h]
  rfl

end Sys2Proof.Machine
end

