-- ==== Sys2Proof/Laws/PerInstr.lean ====
section
/-! SUPPORT. Statements about every instruction, one lemma per constructor. -/

namespace Sys2Proof.Laws.EncodesWellFormedCode

/-- The encoding of an instruction is exactly the bytes of one instruction (30_encoding.md R100, R110). -/
def Statement (i : Instr) : Prop := wellFormedCode (encode i) = true

theorem ldBcD16 (d16 : Word) : Statement (.ldBcD16 d16) := rfl
theorem ldBD8 (d8 : Byte) : Statement (.ldBD8 d8) := rfl
theorem ldIndA16Sp (a16 : Word) : Statement (.ldIndA16Sp a16) := rfl
theorem ldCD8 (d8 : Byte) : Statement (.ldCD8 d8) := rfl
theorem ldDeD16 (d16 : Word) : Statement (.ldDeD16 d16) := rfl
theorem ldDD8 (d8 : Byte) : Statement (.ldDD8 d8) := rfl
theorem jrR8 (r8 : Byte) : Statement (.jrR8 r8) := rfl
theorem ldED8 (d8 : Byte) : Statement (.ldED8 d8) := rfl
theorem jrNzR8 (r8 : Byte) : Statement (.jrNzR8 r8) := rfl
theorem ldHlD16 (d16 : Word) : Statement (.ldHlD16 d16) := rfl
theorem ldHD8 (d8 : Byte) : Statement (.ldHD8 d8) := rfl
theorem jrZR8 (r8 : Byte) : Statement (.jrZR8 r8) := rfl
theorem ldLD8 (d8 : Byte) : Statement (.ldLD8 d8) := rfl
theorem jrNcR8 (r8 : Byte) : Statement (.jrNcR8 r8) := rfl
theorem ldSpD16 (d16 : Word) : Statement (.ldSpD16 d16) := rfl
theorem ldIndHlD8 (d8 : Byte) : Statement (.ldIndHlD8 d8) := rfl
theorem jrCR8 (r8 : Byte) : Statement (.jrCR8 r8) := rfl
theorem ldAD8 (d8 : Byte) : Statement (.ldAD8 d8) := rfl
theorem jpNzA16 (a16 : Word) : Statement (.jpNzA16 a16) := rfl
theorem jpA16 (a16 : Word) : Statement (.jpA16 a16) := rfl
theorem callNzA16 (a16 : Word) : Statement (.callNzA16 a16) := rfl
theorem addAD8 (d8 : Byte) : Statement (.addAD8 d8) := rfl
theorem jpZA16 (a16 : Word) : Statement (.jpZA16 a16) := rfl
theorem callZA16 (a16 : Word) : Statement (.callZA16 a16) := rfl
theorem callA16 (a16 : Word) : Statement (.callA16 a16) := rfl
theorem adcAD8 (d8 : Byte) : Statement (.adcAD8 d8) := rfl
theorem jpNcA16 (a16 : Word) : Statement (.jpNcA16 a16) := rfl
theorem callNcA16 (a16 : Word) : Statement (.callNcA16 a16) := rfl
theorem subD8 (d8 : Byte) : Statement (.subD8 d8) := rfl
theorem jpCA16 (a16 : Word) : Statement (.jpCA16 a16) := rfl
theorem callCA16 (a16 : Word) : Statement (.callCA16 a16) := rfl
theorem sbcAD8 (d8 : Byte) : Statement (.sbcAD8 d8) := rfl
theorem ldhIndA8A (a8 : Byte) : Statement (.ldhIndA8A a8) := rfl
theorem andD8 (d8 : Byte) : Statement (.andD8 d8) := rfl
theorem addSpR8 (r8 : Byte) : Statement (.addSpR8 r8) := rfl
theorem ldIndA16A (a16 : Word) : Statement (.ldIndA16A a16) := rfl
theorem xorD8 (d8 : Byte) : Statement (.xorD8 d8) := rfl
theorem ldhAIndA8 (a8 : Byte) : Statement (.ldhAIndA8 a8) := rfl
theorem orD8 (d8 : Byte) : Statement (.orD8 d8) := rfl
theorem ldHlSpR8 (r8 : Byte) : Statement (.ldHlSpR8 r8) := rfl
theorem ldAIndA16 (a16 : Word) : Statement (.ldAIndA16 a16) := rfl
theorem cpD8 (d8 : Byte) : Statement (.cpD8 d8) := rfl
theorem nop : Statement .nop := rfl
theorem ldIndBcA : Statement .ldIndBcA := rfl
theorem incBc : Statement .incBc := rfl
theorem incB : Statement .incB := rfl
theorem decB : Statement .decB := rfl
theorem rlca : Statement .rlca := rfl
theorem addHlBc : Statement .addHlBc := rfl
theorem ldAIndBc : Statement .ldAIndBc := rfl
theorem decBc : Statement .decBc := rfl
theorem incC : Statement .incC := rfl
theorem decC : Statement .decC := rfl
theorem rrca : Statement .rrca := rfl
theorem stop : Statement .stop := rfl
theorem ldIndDeA : Statement .ldIndDeA := rfl
theorem incDe : Statement .incDe := rfl
theorem incD : Statement .incD := rfl
theorem decD : Statement .decD := rfl
theorem rla : Statement .rla := rfl
theorem addHlDe : Statement .addHlDe := rfl
theorem ldAIndDe : Statement .ldAIndDe := rfl
theorem decDe : Statement .decDe := rfl
theorem incE : Statement .incE := rfl
theorem decE : Statement .decE := rfl
theorem rra : Statement .rra := rfl
theorem ldIndHlIncA : Statement .ldIndHlIncA := rfl
theorem incHl : Statement .incHl := rfl
theorem incH : Statement .incH := rfl
theorem decH : Statement .decH := rfl
theorem daa : Statement .daa := rfl
theorem addHlHl : Statement .addHlHl := rfl
theorem ldAIndHlInc : Statement .ldAIndHlInc := rfl
theorem decHl : Statement .decHl := rfl
theorem incL : Statement .incL := rfl
theorem decL : Statement .decL := rfl
theorem cpl : Statement .cpl := rfl
theorem ldIndHlDecA : Statement .ldIndHlDecA := rfl
theorem incSp : Statement .incSp := rfl
theorem incIndHl : Statement .incIndHl := rfl
theorem decIndHl : Statement .decIndHl := rfl
theorem scf : Statement .scf := rfl
theorem addHlSp : Statement .addHlSp := rfl
theorem ldAIndHlDec : Statement .ldAIndHlDec := rfl
theorem decSp : Statement .decSp := rfl
theorem incA : Statement .incA := rfl
theorem decA : Statement .decA := rfl
theorem ccf : Statement .ccf := rfl
theorem ldBB : Statement .ldBB := rfl
theorem ldBC : Statement .ldBC := rfl
theorem ldBD : Statement .ldBD := rfl
theorem ldBE : Statement .ldBE := rfl
theorem ldBH : Statement .ldBH := rfl
theorem ldBL : Statement .ldBL := rfl
theorem ldBIndHl : Statement .ldBIndHl := rfl
theorem ldBA : Statement .ldBA := rfl
theorem ldCB : Statement .ldCB := rfl
theorem ldCC : Statement .ldCC := rfl
theorem ldCD : Statement .ldCD := rfl
theorem ldCE : Statement .ldCE := rfl
theorem ldCH : Statement .ldCH := rfl
theorem ldCL : Statement .ldCL := rfl
theorem ldCIndHl : Statement .ldCIndHl := rfl
theorem ldCA : Statement .ldCA := rfl
theorem ldDB : Statement .ldDB := rfl
theorem ldDC : Statement .ldDC := rfl
theorem ldDD : Statement .ldDD := rfl
theorem ldDE : Statement .ldDE := rfl
theorem ldDH : Statement .ldDH := rfl
theorem ldDL : Statement .ldDL := rfl
theorem ldDIndHl : Statement .ldDIndHl := rfl
theorem ldDA : Statement .ldDA := rfl
theorem ldEB : Statement .ldEB := rfl
theorem ldEC : Statement .ldEC := rfl
theorem ldED : Statement .ldED := rfl
theorem ldEE : Statement .ldEE := rfl
theorem ldEH : Statement .ldEH := rfl
theorem ldEL : Statement .ldEL := rfl
theorem ldEIndHl : Statement .ldEIndHl := rfl
theorem ldEA : Statement .ldEA := rfl
theorem ldHB : Statement .ldHB := rfl
theorem ldHC : Statement .ldHC := rfl
theorem ldHD : Statement .ldHD := rfl
theorem ldHE : Statement .ldHE := rfl
theorem ldHH : Statement .ldHH := rfl
theorem ldHL : Statement .ldHL := rfl
theorem ldHIndHl : Statement .ldHIndHl := rfl
theorem ldHA : Statement .ldHA := rfl
theorem ldLB : Statement .ldLB := rfl
theorem ldLC : Statement .ldLC := rfl
theorem ldLD : Statement .ldLD := rfl
theorem ldLE : Statement .ldLE := rfl
theorem ldLH : Statement .ldLH := rfl
theorem ldLL : Statement .ldLL := rfl
theorem ldLIndHl : Statement .ldLIndHl := rfl
theorem ldLA : Statement .ldLA := rfl
theorem ldIndHlB : Statement .ldIndHlB := rfl
theorem ldIndHlC : Statement .ldIndHlC := rfl
theorem ldIndHlD : Statement .ldIndHlD := rfl
theorem ldIndHlE : Statement .ldIndHlE := rfl
theorem ldIndHlH : Statement .ldIndHlH := rfl
theorem ldIndHlL : Statement .ldIndHlL := rfl
theorem halt : Statement .halt := rfl
theorem ldIndHlA : Statement .ldIndHlA := rfl
theorem ldAB : Statement .ldAB := rfl
theorem ldAC : Statement .ldAC := rfl
theorem ldAD : Statement .ldAD := rfl
theorem ldAE : Statement .ldAE := rfl
theorem ldAH : Statement .ldAH := rfl
theorem ldAL : Statement .ldAL := rfl
theorem ldAIndHl : Statement .ldAIndHl := rfl
theorem ldAA : Statement .ldAA := rfl
theorem addAB : Statement .addAB := rfl
theorem addAC : Statement .addAC := rfl
theorem addAD : Statement .addAD := rfl
theorem addAE : Statement .addAE := rfl
theorem addAH : Statement .addAH := rfl
theorem addAL : Statement .addAL := rfl
theorem addAIndHl : Statement .addAIndHl := rfl
theorem addAA : Statement .addAA := rfl
theorem adcAB : Statement .adcAB := rfl
theorem adcAC : Statement .adcAC := rfl
theorem adcAD : Statement .adcAD := rfl
theorem adcAE : Statement .adcAE := rfl
theorem adcAH : Statement .adcAH := rfl
theorem adcAL : Statement .adcAL := rfl
theorem adcAIndHl : Statement .adcAIndHl := rfl
theorem adcAA : Statement .adcAA := rfl
theorem subB : Statement .subB := rfl
theorem subC : Statement .subC := rfl
theorem subD : Statement .subD := rfl
theorem subE : Statement .subE := rfl
theorem subH : Statement .subH := rfl
theorem subL : Statement .subL := rfl
theorem subIndHl : Statement .subIndHl := rfl
theorem subA : Statement .subA := rfl
theorem sbcAB : Statement .sbcAB := rfl
theorem sbcAC : Statement .sbcAC := rfl
theorem sbcAD : Statement .sbcAD := rfl
theorem sbcAE : Statement .sbcAE := rfl
theorem sbcAH : Statement .sbcAH := rfl
theorem sbcAL : Statement .sbcAL := rfl
theorem sbcAIndHl : Statement .sbcAIndHl := rfl
theorem sbcAA : Statement .sbcAA := rfl
theorem andB : Statement .andB := rfl
theorem andC : Statement .andC := rfl
theorem andD : Statement .andD := rfl
theorem andE : Statement .andE := rfl
theorem andH : Statement .andH := rfl
theorem andL : Statement .andL := rfl
theorem andIndHl : Statement .andIndHl := rfl
theorem andA : Statement .andA := rfl
theorem xorB : Statement .xorB := rfl
theorem xorC : Statement .xorC := rfl
theorem xorD : Statement .xorD := rfl
theorem xorE : Statement .xorE := rfl
theorem xorH : Statement .xorH := rfl
theorem xorL : Statement .xorL := rfl
theorem xorIndHl : Statement .xorIndHl := rfl
theorem xorA : Statement .xorA := rfl
theorem orB : Statement .orB := rfl
theorem orC : Statement .orC := rfl
theorem orD : Statement .orD := rfl
theorem orE : Statement .orE := rfl
theorem orH : Statement .orH := rfl
theorem orL : Statement .orL := rfl
theorem orIndHl : Statement .orIndHl := rfl
theorem orA : Statement .orA := rfl
theorem cpB : Statement .cpB := rfl
theorem cpC : Statement .cpC := rfl
theorem cpD : Statement .cpD := rfl
theorem cpE : Statement .cpE := rfl
theorem cpH : Statement .cpH := rfl
theorem cpL : Statement .cpL := rfl
theorem cpIndHl : Statement .cpIndHl := rfl
theorem cpA : Statement .cpA := rfl
theorem retNz : Statement .retNz := rfl
theorem popBc : Statement .popBc := rfl
theorem pushBc : Statement .pushBc := rfl
theorem rst00H : Statement .rst00H := rfl
theorem retZ : Statement .retZ := rfl
theorem ret : Statement .ret := rfl
theorem prefixCb : Statement .prefixCb := rfl
theorem rst08H : Statement .rst08H := rfl
theorem retNc : Statement .retNc := rfl
theorem popDe : Statement .popDe := rfl
theorem undefD3 : Statement .undefD3 := rfl
theorem pushDe : Statement .pushDe := rfl
theorem rst10H : Statement .rst10H := rfl
theorem retC : Statement .retC := rfl
theorem reti : Statement .reti := rfl
theorem undefDB : Statement .undefDB := rfl
theorem undefDD : Statement .undefDD := rfl
theorem rst18H : Statement .rst18H := rfl
theorem popHl : Statement .popHl := rfl
theorem ldIndCA : Statement .ldIndCA := rfl
theorem undefE3 : Statement .undefE3 := rfl
theorem undefE4 : Statement .undefE4 := rfl
theorem pushHl : Statement .pushHl := rfl
theorem rst20H : Statement .rst20H := rfl
theorem jpHl : Statement .jpHl := rfl
theorem undefEB : Statement .undefEB := rfl
theorem undefEC : Statement .undefEC := rfl
theorem undefED : Statement .undefED := rfl
theorem rst28H : Statement .rst28H := rfl
theorem popAf : Statement .popAf := rfl
theorem ldAIndC : Statement .ldAIndC := rfl
theorem di : Statement .di := rfl
theorem undefF4 : Statement .undefF4 := rfl
theorem pushAf : Statement .pushAf := rfl
theorem rst30H : Statement .rst30H := rfl
theorem ldSpHl : Statement .ldSpHl := rfl
theorem ei : Statement .ei := rfl
theorem undefFC : Statement .undefFC := rfl
theorem undefFD : Statement .undefFD := rfl
theorem rst38H : Statement .rst38H := rfl

end Sys2Proof.Laws.EncodesWellFormedCode
end

