-- ==== Sys2Proof/Laws/Step.lean ====
section
/-! SUPPORT. What a step can do, the fetch of each format, and where loaded code is fetched from. -/

namespace Sys2Proof.Machine

/-! ## The step -/

theorem step_halted {s : State} (h : s.halted = true) : step s = .next s.idle := by simp [step, h]

theorem step_running {s : State} (h : s.halted = false) :
    step s = exec s.beginStep.fetchInstr.1 s.beginStep.fetchInstr.2 := by simp [step, h]

/-- What a step can do: idle, or run the fetched instruction. -/
theorem step_cases {s t : State} (h : step s = .next t) :
    (s.halted = true ∧ t = s.idle) ∨
    (s.halted = false ∧ exec s.beginStep.fetchInstr.1 s.beginStep.fetchInstr.2 = .next t) := by
  cases hs : s.halted
  · exact .inr ⟨rfl, by rwa [step_running hs] at h⟩
  · rw [step_halted hs] at h
    exact .inl ⟨rfl, (Host.Outcome.next.inj h).symm⟩

/-! ## The fetch

`Spec.fetched s n` is the state after `n` bytes have been read at PC. -/

theorem fetchOpcode_eq (s : State) : s.beginStep.fetchOpcode = Spec.fetched s 1 := rfl

theorem fetch_two_eq (s : State) : s.beginStep.fetchOpcode.fetch8 = Spec.fetched s 2 := by
  have h : s.pc + 1#16 + 1#16 = s.pc + 2#16 := by bv_omega
  apply State.ext_fields
  simp [Spec.fetched, Spec.fetchLog, h]

theorem fetch_three_eq (s : State) : s.beginStep.fetchOpcode.fetch8.fetch8 = Spec.fetched s 3 := by
  have h : s.pc + 1#16 + 1#16 + 1#16 = s.pc + 3#16 := by bv_omega
  apply State.ext_fields
  simp [Spec.fetched, Spec.fetchLog, h]

/-- Reading operand bytes moves PC and the bus log only. -/
theorem fetchOperand_frame (e : Entry) (s : State) :
    (s.fetchOperand e).2 = { s with pc := (s.fetchOperand e).2.pc, bus := (s.fetchOperand e).2.bus } := by
  cases e <;> rfl

/-- The fetch of an entry that agrees with the encoder: the instruction the bytes at PC decode to, and the state
after exactly its bytes have been read. -/
theorem fetchOperand_eq {e : Entry} {s : State} {i : Instr} {rest : List Byte}
    (ha : e.Agrees (s.readByte s.pc))
    (hd : e.assemble (s.readByte s.pc) [s.readByte (s.pc + 1), s.readByte (s.pc + 1 + 1)] = .ok i rest) :
    s.beginStep.fetchOpcode.fetchOperand e = (i, Spec.fetched s (encode i).length) := by
  cases e <;> simp only [Entry.assemble, Decoded.ok.injEq] at hd <;> rw [← hd.1]
  case op => rw [ha.2]; simp only [State.fetchOperand, fetchOpcode_eq, List.length_cons, List.length_nil]
  case opD8 | opA8 | opR8 =>
    rw [ha.2]
    simp only [State.fetchOperand, List.length_cons, List.length_nil, fetch_two_eq, State.fetchOpcode_readByte,
      State.fetchOpcode_pc, State.beginStep_readByte, State.beginStep_pc]
  case opD16 | opA16 =>
    rw [ha.2]
    simp only [State.fetchOperand, List.length_cons, List.length_nil, fetch_three_eq, State.fetchOpcode_readByte,
      State.fetchOpcode_pc, State.beginStep_readByte, State.beginStep_pc, State.fetch8_readByte, State.fetch8_pc]

/-! ## Loaded code -/

theorem entryPoint_fits : codeFits 3 entryPoint = true := by decide

theorem tableBytes_length (nbits w : Nat) : (tableBytes nbits w).length = 3 := rfl

theorem withFetchWord_halted (s : State) (nbits w : Nat) : (s.withFetchWord nbits w).halted = false := rfl

/-- The bytes of a table word lie where the next step fetches. -/
theorem withFetchWord_fits (s : State) (nbits w : Nat) :
    codeFits 3 (s.withFetchWord nbits w).pc = true := by
  show codeFits 3 (if codeFits (tableBytes nbits w).length s.pc then s.pc else entryPoint) = true
  rw [tableBytes_length]
  split
  · assumption
  · exact entryPoint_fits

end Sys2Proof.Machine
end

