-- ==== Sys2Proof/Tests/Slice0.lean ====
section
/-! SUPPORT. Tests: the checks of `WellFormed`, one word of every row of the opcode map, the one-step vectors of
95_test_vectors.md, and for every statement with hypotheses a state and operands that meet them. Expected values
are those of the vector named (V1 to V172), of the opcode table, or counted by hand from the rule cited. -/

namespace Sys2Proof.Tests

open Sys2Proof.Machine Sys2Proof.Spec

/-! ## WellFormed: an ill-formed byte string for each check (30_encoding.md R100, R110) -/

/-- Check 1: no opcode byte. -/
theorem test_no_opcode_refused : hasOpcode [] = false ∧ wellFormedCode [] = false := by decide

/-- Check 2: `JP a16` with one operand byte. -/
theorem test_missing_operand_refused :
    hasAllOperands [0xC3, 0x34] = false ∧ wellFormedCode [0xC3, 0x34] = false := by decide

/-- Check 3: `NOP` with a byte after it. -/
theorem test_excess_refused : hasNoExcess [0x00, 0x00] = false ∧ wellFormedCode [0x00, 0x00] = false := by decide

/-- A form of each length. -/
theorem test_well_formed_accepted :
    wellFormedCode [0x00] = true ∧ wellFormedCode [0x18, 0xFE] = true ∧ wellFormedCode [0xC3, 0x34, 0x12] = true := by
  decide

/-! ## Decoding: one word of every row, bits from spec/opcode_table.json (30_encoding.md R109) -/

theorem test_decode_row_0 :
    decode [0b00000000] = .ok .nop [] ∧
    decode [0b00000001, 0x34, 0x12] = .ok (.ldBcD16 0x1234) [] ∧
    decode [0b00000010] = .ok .ldIndBcA [] ∧
    decode [0b00000011] = .ok .incBc [] ∧
    decode [0b00000100] = .ok .incB [] ∧
    decode [0b00000101] = .ok .decB [] ∧
    decode [0b00000110, 0xA5] = .ok (.ldBD8 0xA5) [] ∧
    decode [0b00000111] = .ok .rlca [] ∧
    decode [0b00001000, 0x34, 0x12] = .ok (.ldIndA16Sp 0x1234) [] ∧
    decode [0b00001001] = .ok .addHlBc [] ∧
    decode [0b00001010] = .ok .ldAIndBc [] ∧
    decode [0b00001011] = .ok .decBc [] ∧
    decode [0b00001100] = .ok .incC [] ∧
    decode [0b00001101] = .ok .decC [] ∧
    decode [0b00001110, 0xA5] = .ok (.ldCD8 0xA5) [] ∧
    decode [0b00001111] = .ok .rrca [] := by decide

theorem test_decode_row_1 :
    decode [0b00010000] = .ok .stop [] ∧
    decode [0b00010001, 0x34, 0x12] = .ok (.ldDeD16 0x1234) [] ∧
    decode [0b00010010] = .ok .ldIndDeA [] ∧
    decode [0b00010011] = .ok .incDe [] ∧
    decode [0b00010100] = .ok .incD [] ∧
    decode [0b00010101] = .ok .decD [] ∧
    decode [0b00010110, 0xA5] = .ok (.ldDD8 0xA5) [] ∧
    decode [0b00010111] = .ok .rla [] ∧
    decode [0b00011000, 0xA5] = .ok (.jrR8 0xA5) [] ∧
    decode [0b00011001] = .ok .addHlDe [] ∧
    decode [0b00011010] = .ok .ldAIndDe [] ∧
    decode [0b00011011] = .ok .decDe [] ∧
    decode [0b00011100] = .ok .incE [] ∧
    decode [0b00011101] = .ok .decE [] ∧
    decode [0b00011110, 0xA5] = .ok (.ldED8 0xA5) [] ∧
    decode [0b00011111] = .ok .rra [] := by decide

theorem test_decode_row_2 :
    decode [0b00100000, 0xA5] = .ok (.jrNzR8 0xA5) [] ∧
    decode [0b00100001, 0x34, 0x12] = .ok (.ldHlD16 0x1234) [] ∧
    decode [0b00100010] = .ok .ldIndHlIncA [] ∧
    decode [0b00100011] = .ok .incHl [] ∧
    decode [0b00100100] = .ok .incH [] ∧
    decode [0b00100101] = .ok .decH [] ∧
    decode [0b00100110, 0xA5] = .ok (.ldHD8 0xA5) [] ∧
    decode [0b00100111] = .ok .daa [] ∧
    decode [0b00101000, 0xA5] = .ok (.jrZR8 0xA5) [] ∧
    decode [0b00101001] = .ok .addHlHl [] ∧
    decode [0b00101010] = .ok .ldAIndHlInc [] ∧
    decode [0b00101011] = .ok .decHl [] ∧
    decode [0b00101100] = .ok .incL [] ∧
    decode [0b00101101] = .ok .decL [] ∧
    decode [0b00101110, 0xA5] = .ok (.ldLD8 0xA5) [] ∧
    decode [0b00101111] = .ok .cpl [] := by decide

theorem test_decode_row_3 :
    decode [0b00110000, 0xA5] = .ok (.jrNcR8 0xA5) [] ∧
    decode [0b00110001, 0x34, 0x12] = .ok (.ldSpD16 0x1234) [] ∧
    decode [0b00110010] = .ok .ldIndHlDecA [] ∧
    decode [0b00110011] = .ok .incSp [] ∧
    decode [0b00110100] = .ok .incIndHl [] ∧
    decode [0b00110101] = .ok .decIndHl [] ∧
    decode [0b00110110, 0xA5] = .ok (.ldIndHlD8 0xA5) [] ∧
    decode [0b00110111] = .ok .scf [] ∧
    decode [0b00111000, 0xA5] = .ok (.jrCR8 0xA5) [] ∧
    decode [0b00111001] = .ok .addHlSp [] ∧
    decode [0b00111010] = .ok .ldAIndHlDec [] ∧
    decode [0b00111011] = .ok .decSp [] ∧
    decode [0b00111100] = .ok .incA [] ∧
    decode [0b00111101] = .ok .decA [] ∧
    decode [0b00111110, 0xA5] = .ok (.ldAD8 0xA5) [] ∧
    decode [0b00111111] = .ok .ccf [] := by decide

theorem test_decode_row_4 :
    decode [0b01000000] = .ok .ldBB [] ∧
    decode [0b01000001] = .ok .ldBC [] ∧
    decode [0b01000010] = .ok .ldBD [] ∧
    decode [0b01000011] = .ok .ldBE [] ∧
    decode [0b01000100] = .ok .ldBH [] ∧
    decode [0b01000101] = .ok .ldBL [] ∧
    decode [0b01000110] = .ok .ldBIndHl [] ∧
    decode [0b01000111] = .ok .ldBA [] ∧
    decode [0b01001000] = .ok .ldCB [] ∧
    decode [0b01001001] = .ok .ldCC [] ∧
    decode [0b01001010] = .ok .ldCD [] ∧
    decode [0b01001011] = .ok .ldCE [] ∧
    decode [0b01001100] = .ok .ldCH [] ∧
    decode [0b01001101] = .ok .ldCL [] ∧
    decode [0b01001110] = .ok .ldCIndHl [] ∧
    decode [0b01001111] = .ok .ldCA [] := by decide

theorem test_decode_row_5 :
    decode [0b01010000] = .ok .ldDB [] ∧
    decode [0b01010001] = .ok .ldDC [] ∧
    decode [0b01010010] = .ok .ldDD [] ∧
    decode [0b01010011] = .ok .ldDE [] ∧
    decode [0b01010100] = .ok .ldDH [] ∧
    decode [0b01010101] = .ok .ldDL [] ∧
    decode [0b01010110] = .ok .ldDIndHl [] ∧
    decode [0b01010111] = .ok .ldDA [] ∧
    decode [0b01011000] = .ok .ldEB [] ∧
    decode [0b01011001] = .ok .ldEC [] ∧
    decode [0b01011010] = .ok .ldED [] ∧
    decode [0b01011011] = .ok .ldEE [] ∧
    decode [0b01011100] = .ok .ldEH [] ∧
    decode [0b01011101] = .ok .ldEL [] ∧
    decode [0b01011110] = .ok .ldEIndHl [] ∧
    decode [0b01011111] = .ok .ldEA [] := by decide

theorem test_decode_row_6 :
    decode [0b01100000] = .ok .ldHB [] ∧
    decode [0b01100001] = .ok .ldHC [] ∧
    decode [0b01100010] = .ok .ldHD [] ∧
    decode [0b01100011] = .ok .ldHE [] ∧
    decode [0b01100100] = .ok .ldHH [] ∧
    decode [0b01100101] = .ok .ldHL [] ∧
    decode [0b01100110] = .ok .ldHIndHl [] ∧
    decode [0b01100111] = .ok .ldHA [] ∧
    decode [0b01101000] = .ok .ldLB [] ∧
    decode [0b01101001] = .ok .ldLC [] ∧
    decode [0b01101010] = .ok .ldLD [] ∧
    decode [0b01101011] = .ok .ldLE [] ∧
    decode [0b01101100] = .ok .ldLH [] ∧
    decode [0b01101101] = .ok .ldLL [] ∧
    decode [0b01101110] = .ok .ldLIndHl [] ∧
    decode [0b01101111] = .ok .ldLA [] := by decide

theorem test_decode_row_7 :
    decode [0b01110000] = .ok .ldIndHlB [] ∧
    decode [0b01110001] = .ok .ldIndHlC [] ∧
    decode [0b01110010] = .ok .ldIndHlD [] ∧
    decode [0b01110011] = .ok .ldIndHlE [] ∧
    decode [0b01110100] = .ok .ldIndHlH [] ∧
    decode [0b01110101] = .ok .ldIndHlL [] ∧
    decode [0b01110110] = .ok .halt [] ∧
    decode [0b01110111] = .ok .ldIndHlA [] ∧
    decode [0b01111000] = .ok .ldAB [] ∧
    decode [0b01111001] = .ok .ldAC [] ∧
    decode [0b01111010] = .ok .ldAD [] ∧
    decode [0b01111011] = .ok .ldAE [] ∧
    decode [0b01111100] = .ok .ldAH [] ∧
    decode [0b01111101] = .ok .ldAL [] ∧
    decode [0b01111110] = .ok .ldAIndHl [] ∧
    decode [0b01111111] = .ok .ldAA [] := by decide

theorem test_decode_row_8 :
    decode [0b10000000] = .ok .addAB [] ∧
    decode [0b10000001] = .ok .addAC [] ∧
    decode [0b10000010] = .ok .addAD [] ∧
    decode [0b10000011] = .ok .addAE [] ∧
    decode [0b10000100] = .ok .addAH [] ∧
    decode [0b10000101] = .ok .addAL [] ∧
    decode [0b10000110] = .ok .addAIndHl [] ∧
    decode [0b10000111] = .ok .addAA [] ∧
    decode [0b10001000] = .ok .adcAB [] ∧
    decode [0b10001001] = .ok .adcAC [] ∧
    decode [0b10001010] = .ok .adcAD [] ∧
    decode [0b10001011] = .ok .adcAE [] ∧
    decode [0b10001100] = .ok .adcAH [] ∧
    decode [0b10001101] = .ok .adcAL [] ∧
    decode [0b10001110] = .ok .adcAIndHl [] ∧
    decode [0b10001111] = .ok .adcAA [] := by decide

theorem test_decode_row_9 :
    decode [0b10010000] = .ok .subB [] ∧
    decode [0b10010001] = .ok .subC [] ∧
    decode [0b10010010] = .ok .subD [] ∧
    decode [0b10010011] = .ok .subE [] ∧
    decode [0b10010100] = .ok .subH [] ∧
    decode [0b10010101] = .ok .subL [] ∧
    decode [0b10010110] = .ok .subIndHl [] ∧
    decode [0b10010111] = .ok .subA [] ∧
    decode [0b10011000] = .ok .sbcAB [] ∧
    decode [0b10011001] = .ok .sbcAC [] ∧
    decode [0b10011010] = .ok .sbcAD [] ∧
    decode [0b10011011] = .ok .sbcAE [] ∧
    decode [0b10011100] = .ok .sbcAH [] ∧
    decode [0b10011101] = .ok .sbcAL [] ∧
    decode [0b10011110] = .ok .sbcAIndHl [] ∧
    decode [0b10011111] = .ok .sbcAA [] := by decide

theorem test_decode_row_A :
    decode [0b10100000] = .ok .andB [] ∧
    decode [0b10100001] = .ok .andC [] ∧
    decode [0b10100010] = .ok .andD [] ∧
    decode [0b10100011] = .ok .andE [] ∧
    decode [0b10100100] = .ok .andH [] ∧
    decode [0b10100101] = .ok .andL [] ∧
    decode [0b10100110] = .ok .andIndHl [] ∧
    decode [0b10100111] = .ok .andA [] ∧
    decode [0b10101000] = .ok .xorB [] ∧
    decode [0b10101001] = .ok .xorC [] ∧
    decode [0b10101010] = .ok .xorD [] ∧
    decode [0b10101011] = .ok .xorE [] ∧
    decode [0b10101100] = .ok .xorH [] ∧
    decode [0b10101101] = .ok .xorL [] ∧
    decode [0b10101110] = .ok .xorIndHl [] ∧
    decode [0b10101111] = .ok .xorA [] := by decide

theorem test_decode_row_B :
    decode [0b10110000] = .ok .orB [] ∧
    decode [0b10110001] = .ok .orC [] ∧
    decode [0b10110010] = .ok .orD [] ∧
    decode [0b10110011] = .ok .orE [] ∧
    decode [0b10110100] = .ok .orH [] ∧
    decode [0b10110101] = .ok .orL [] ∧
    decode [0b10110110] = .ok .orIndHl [] ∧
    decode [0b10110111] = .ok .orA [] ∧
    decode [0b10111000] = .ok .cpB [] ∧
    decode [0b10111001] = .ok .cpC [] ∧
    decode [0b10111010] = .ok .cpD [] ∧
    decode [0b10111011] = .ok .cpE [] ∧
    decode [0b10111100] = .ok .cpH [] ∧
    decode [0b10111101] = .ok .cpL [] ∧
    decode [0b10111110] = .ok .cpIndHl [] ∧
    decode [0b10111111] = .ok .cpA [] := by decide

theorem test_decode_row_C :
    decode [0b11000000] = .ok .retNz [] ∧
    decode [0b11000001] = .ok .popBc [] ∧
    decode [0b11000010, 0x34, 0x12] = .ok (.jpNzA16 0x1234) [] ∧
    decode [0b11000011, 0x34, 0x12] = .ok (.jpA16 0x1234) [] ∧
    decode [0b11000100, 0x34, 0x12] = .ok (.callNzA16 0x1234) [] ∧
    decode [0b11000101] = .ok .pushBc [] ∧
    decode [0b11000110, 0xA5] = .ok (.addAD8 0xA5) [] ∧
    decode [0b11000111] = .ok .rst00H [] ∧
    decode [0b11001000] = .ok .retZ [] ∧
    decode [0b11001001] = .ok .ret [] ∧
    decode [0b11001010, 0x34, 0x12] = .ok (.jpZA16 0x1234) [] ∧
    decode [0b11001011] = .ok .prefixCb [] ∧
    decode [0b11001100, 0x34, 0x12] = .ok (.callZA16 0x1234) [] ∧
    decode [0b11001101, 0x34, 0x12] = .ok (.callA16 0x1234) [] ∧
    decode [0b11001110, 0xA5] = .ok (.adcAD8 0xA5) [] ∧
    decode [0b11001111] = .ok .rst08H [] := by decide

theorem test_decode_row_D :
    decode [0b11010000] = .ok .retNc [] ∧
    decode [0b11010001] = .ok .popDe [] ∧
    decode [0b11010010, 0x34, 0x12] = .ok (.jpNcA16 0x1234) [] ∧
    decode [0b11010011] = .ok .undefD3 [] ∧
    decode [0b11010100, 0x34, 0x12] = .ok (.callNcA16 0x1234) [] ∧
    decode [0b11010101] = .ok .pushDe [] ∧
    decode [0b11010110, 0xA5] = .ok (.subD8 0xA5) [] ∧
    decode [0b11010111] = .ok .rst10H [] ∧
    decode [0b11011000] = .ok .retC [] ∧
    decode [0b11011001] = .ok .reti [] ∧
    decode [0b11011010, 0x34, 0x12] = .ok (.jpCA16 0x1234) [] ∧
    decode [0b11011011] = .ok .undefDB [] ∧
    decode [0b11011100, 0x34, 0x12] = .ok (.callCA16 0x1234) [] ∧
    decode [0b11011101] = .ok .undefDD [] ∧
    decode [0b11011110, 0xA5] = .ok (.sbcAD8 0xA5) [] ∧
    decode [0b11011111] = .ok .rst18H [] := by decide

theorem test_decode_row_E :
    decode [0b11100000, 0xA5] = .ok (.ldhIndA8A 0xA5) [] ∧
    decode [0b11100001] = .ok .popHl [] ∧
    decode [0b11100010] = .ok .ldIndCA [] ∧
    decode [0b11100011] = .ok .undefE3 [] ∧
    decode [0b11100100] = .ok .undefE4 [] ∧
    decode [0b11100101] = .ok .pushHl [] ∧
    decode [0b11100110, 0xA5] = .ok (.andD8 0xA5) [] ∧
    decode [0b11100111] = .ok .rst20H [] ∧
    decode [0b11101000, 0xA5] = .ok (.addSpR8 0xA5) [] ∧
    decode [0b11101001] = .ok .jpHl [] ∧
    decode [0b11101010, 0x34, 0x12] = .ok (.ldIndA16A 0x1234) [] ∧
    decode [0b11101011] = .ok .undefEB [] ∧
    decode [0b11101100] = .ok .undefEC [] ∧
    decode [0b11101101] = .ok .undefED [] ∧
    decode [0b11101110, 0xA5] = .ok (.xorD8 0xA5) [] ∧
    decode [0b11101111] = .ok .rst28H [] := by decide

theorem test_decode_row_F :
    decode [0b11110000, 0xA5] = .ok (.ldhAIndA8 0xA5) [] ∧
    decode [0b11110001] = .ok .popAf [] ∧
    decode [0b11110010] = .ok .ldAIndC [] ∧
    decode [0b11110011] = .ok .di [] ∧
    decode [0b11110100] = .ok .undefF4 [] ∧
    decode [0b11110101] = .ok .pushAf [] ∧
    decode [0b11110110, 0xA5] = .ok (.orD8 0xA5) [] ∧
    decode [0b11110111] = .ok .rst30H [] ∧
    decode [0b11111000, 0xA5] = .ok (.ldHlSpR8 0xA5) [] ∧
    decode [0b11111001] = .ok .ldSpHl [] ∧
    decode [0b11111010, 0x34, 0x12] = .ok (.ldAIndA16 0x1234) [] ∧
    decode [0b11111011] = .ok .ei [] ∧
    decode [0b11111100] = .ok .undefFC [] ∧
    decode [0b11111101] = .ok .undefFD [] ∧
    decode [0b11111110, 0xA5] = .ok (.cpD8 0xA5) [] ∧
    decode [0b11111111] = .ok .rst38H [] := by decide

/-- The same through the table's numbering of bits: a later byte counts on from bit 8 (opcode_table.json). -/
theorem test_decode_table_word :
    decodeTableWord 24 0x1234C3 = some (.jpA16 0x1234) ∧ decodeTableWord 8 0x3C = some .incA ∧
    decodeTableWord 16 0xA506 = some (.ldBD8 0xA5) ∧ decodeTableWord 8 0xFF06 = some (.ldBD8 0) := by decide

/-- A truncated instruction is rejected by name. -/
theorem test_decode_rejects :
    decode [] = .rejected .noOpcode ∧ decode [0xC3, 0x34] = .rejected (.missingOperand 0xC3) := by decide

/-! ## One step (95_test_vectors.md: the vector in the name; the start state is reset with the changes shown) -/

/-- Put data bytes in memory, as the start column of a vector does. -/
def withData (s : State) : List (Word × Byte) → State
  | [] => s
  | (x, v) :: rest => withData { s with mem := s.mem.load x [v] } rest

/-- One step of the code given, placed at PC, seen through a view of the next state. -/
def stepShows {α : Type} (code : List Byte) (s : State) (data : List (Word × Byte)) (view : State → α) : Option α :=
  match step { withData s data with mem := (withData s data).mem.load s.pc code } with
  | .next t => some (view t)
  | _ => none

/-- `LD B,C`. -/
theorem test_V50 :
    stepShows [0x41] State.reset [] (fun t => (t.b, t.pc, t.cycles)) = some (0x13, 0x0101, 1) := by decide

/-- `LD A,A`. -/
theorem test_V51 :
    stepShows [0x7F] State.reset [] (fun t => (t.pc, t.cycles)) = some (0x0101, 1) := by decide

/-- `LD H,L`. -/
theorem test_V52 :
    stepShows [0x65] State.reset [] (fun t => (t.h, t.pc, t.cycles)) = some (0x4D, 0x0101, 1) := by decide

/-- `LD E,(HL)`. -/
theorem test_V53 :
    stepShows [0x5E] { State.reset with h := 0xC1, l := 0x23 } [(0xC123, 0x77)]
      (fun t => (t.e, t.pc, t.cycles, t.bus.drop 1)) = some (0x77, 0x0101, 2, [.read 0xC123 0x77]) := by decide

/-- `LD H,(HL)`. -/
theorem test_V54 :
    stepShows [0x66] { State.reset with h := 0xC1, l := 0x23 } [(0xC123, 0x77)]
      (fun t => (t.h, t.pc, t.cycles, t.bus.drop 1)) = some (0x77, 0x0101, 2, [.read 0xC123 0x77]) := by decide

/-- `LD (HL),B`. -/
theorem test_V55 :
    stepShows [0x70] { State.reset with h := 0xC2, l := 0x00, b := 0x99 } []
      (fun t => (t.pc, t.cycles, t.bus.drop 1)) = some (0x0101, 2, [.write 0xC200 0x99]) := by decide

/-- `LD (HL),L`. -/
theorem test_V56 :
    stepShows [0x75] { State.reset with h := 0xC2, l := 0x34 } [] (fun t => (t.pc, t.cycles, t.bus.drop 1))
      = some (0x0101, 2, [.write 0xC234 0x34]) := by decide

/-- `LD D,d8`. -/
theorem test_V57 :
    stepShows [0x16, 0xAB] State.reset [] (fun t => (t.d, t.pc, t.cycles)) = some (0xAB, 0x0102, 2) := by decide

/-- `LD (HL),d8`. -/
theorem test_V58 :
    stepShows [0x36, 0x5A] { State.reset with h := 0xFF, l := 0x80 } [] (fun t => (t.pc, t.cycles, t.bus.drop 2))
      = some (0x0102, 3, [.write 0xFF80 0x5A]) := by decide

/-- `LD A,(BC)`. -/
theorem test_V59 :
    stepShows [0x0A] { State.reset with b := 0x01, c := 0x50 } [(0x0150, 0xEE)]
      (fun t => (t.a, t.pc, t.cycles, t.bus.drop 1)) = some (0xEE, 0x0101, 2, [.read 0x0150 0xEE]) := by decide

/-- `LD A,(DE)`: video window reads SENTINEL. -/
theorem test_V60 :
    stepShows [0x1A] { State.reset with d := 0x80, e := 0x00 } [] (fun t => (t.a, t.pc, t.cycles, t.bus.drop 1))
      = some (0xFF, 0x0101, 2, [.read 0x8000 0xFF]) := by decide

/-- `LD (BC),A`. -/
theorem test_V61 :
    stepShows [0x02] { State.reset with b := 0xA0, c := 0x00, a := 0x42 } []
      (fun t => (t.pc, t.cycles, t.bus.drop 1)) = some (0x0101, 2, [.write 0xA000 0x42]) := by decide

/-- `LD (DE),A`: unsupported write dropped. -/
theorem test_V62 :
    stepShows [0x12] { State.reset with d := 0xE0, e := 0x00, a := 0x42 } []
      (fun t => (t.pc, t.cycles, t.bus.drop 1)) = some (0x0101, 2, [.write 0xE000 0x42]) := by decide

/-- `LD A,(a16)`. -/
theorem test_V63 :
    stepShows [0xFA, 0x34, 0xC2] State.reset [(0xC234, 0x9C)] (fun t => (t.a, t.pc, t.cycles, t.bus.drop 3))
      = some (0x9C, 0x0103, 4, [.read 0xC234 0x9C]) := by decide

/-- `LD (a16),A`. -/
theorem test_V64 :
    stepShows [0xEA, 0xFE, 0xFF] { State.reset with a := 0x77 } [] (fun t => (t.pc, t.cycles, t.bus.drop 3))
      = some (0x0103, 4, [.write 0xFFFE 0x77]) := by decide

/-- `LD A,(HL+)`. -/
theorem test_V65 :
    stepShows [0x2A] { State.reset with h := 0xC0, l := 0xFF } [(0xC0FF, 0x11)]
      (fun t => ((t.a, t.h, t.l), t.pc, t.cycles, t.bus.drop 1))
      = some ((0x11, 0xC1, 0x00), 0x0101, 2, [.read 0xC0FF 0x11]) := by decide

/-- `LD A,(HL-)`. -/
theorem test_V66 :
    stepShows [0x3A] { State.reset with h := 0xC0, l := 0x00 } [(0xC000, 0x22)]
      (fun t => ((t.a, t.h, t.l), t.pc, t.cycles, t.bus.drop 1))
      = some ((0x22, 0xBF, 0xFF), 0x0101, 2, [.read 0xC000 0x22]) := by decide

/-- `LD (HL+),A`: write to 0xFFFF dropped, HL wraps. -/
theorem test_V67 :
    stepShows [0x22] { State.reset with h := 0xFF, l := 0xFF, a := 0x33 } []
      (fun t => (t.h, t.l, t.pc, t.cycles, t.bus.drop 1))
      = some (0x00, 0x00, 0x0101, 2, [.write 0xFFFF 0x33]) := by decide

/-- `LD (HL-),A`. -/
theorem test_V68 :
    stepShows [0x32] { State.reset with h := 0xC0, l := 0x00, a := 0x44 } []
      (fun t => (t.h, t.l, t.pc, t.cycles, t.bus.drop 1))
      = some (0xBF, 0xFF, 0x0101, 2, [.write 0xC000 0x44]) := by decide

/-- `LDH A,(a8)`. -/
theorem test_V69 :
    stepShows [0xF0, 0x80] State.reset [(0xFF80, 0x5D)] (fun t => (t.a, t.pc, t.cycles, t.bus.drop 2))
      = some (0x5D, 0x0102, 3, [.read 0xFF80 0x5D]) := by decide

/-- `LDH A,(a8)`: 0xFF00 unsupported. -/
theorem test_V70 :
    stepShows [0xF0, 0x00] { State.reset with a := 0x00 } [] (fun t => (t.a, t.pc, t.cycles, t.bus.drop 2))
      = some (0xFF, 0x0102, 3, [.read 0xFF00 0xFF]) := by decide

/-- `LDH (a8),A`. -/
theorem test_V71 :
    stepShows [0xE0, 0xFE] { State.reset with a := 0xA5 } [] (fun t => (t.pc, t.cycles, t.bus.drop 2))
      = some (0x0102, 3, [.write 0xFFFE 0xA5]) := by decide

/-- `LD A,(C)`. -/
theorem test_V72 :
    stepShows [0xF2] { State.reset with c := 0x90 } [(0xFF90, 0x66)] (fun t => (t.a, t.pc, t.cycles, t.bus.drop 1))
      = some (0x66, 0x0101, 2, [.read 0xFF90 0x66]) := by decide

/-- `LD (C),A`. -/
theorem test_V73 :
    stepShows [0xE2] { State.reset with c := 0x85, a := 0x3C } [] (fun t => (t.pc, t.cycles, t.bus.drop 1))
      = some (0x0101, 2, [.write 0xFF85 0x3C]) := by decide

/-- `LD BC,d16`. -/
theorem test_V74 :
    stepShows [0x01, 0x34, 0x12] State.reset [] (fun t => (t.b, t.c, t.pc, t.cycles))
      = some (0x12, 0x34, 0x0103, 3) := by decide

/-- `LD SP,d16`. -/
theorem test_V75 :
    stepShows [0x31, 0x00, 0xE0] State.reset [] (fun t => (t.sp, t.pc, t.cycles))
      = some (0xE000, 0x0103, 3) := by decide

/-- `LD SP,HL`. -/
theorem test_V76 :
    stepShows [0xF9] { State.reset with h := 0xD0, l := 0x00 } [] (fun t => (t.sp, t.pc, t.cycles))
      = some (0xD000, 0x0101, 2) := by decide

/-- `LD (a16),SP`. -/
theorem test_V77 :
    stepShows [0x08, 0x00, 0xC1] { State.reset with sp := 0xABCD } [] (fun t => (t.pc, t.cycles, t.bus.drop 3))
      = some (0x0103, 5, [.write 0xC100 0xCD, .write 0xC101 0xAB]) := by decide

/-- `LD (a16),SP`: second byte goes to 0xE000, dropped. -/
theorem test_V78 :
    stepShows [0x08, 0xFF, 0xDF] { State.reset with sp := 0x1234 } [] (fun t => (t.pc, t.cycles, t.bus.drop 3))
      = some (0x0103, 5, [.write 0xDFFF 0x34, .write 0xE000 0x12]) := by decide

/-- `INC A`. -/
theorem test_V30 :
    stepShows [0x3C] { State.reset with a := 0xFF, f := 0x10 } [] (fun t => (t.a, t.f, t.pc, t.cycles))
      = some (0x00, 0xB0, 0x0101, 1) := by decide

/-- `INC A`. -/
theorem test_V31 :
    stepShows [0x3C] { State.reset with a := 0x0F, f := 0x40 } [] (fun t => (t.a, t.f, t.pc, t.cycles))
      = some (0x10, 0x20, 0x0101, 1) := by decide

/-- `INC L`. -/
theorem test_V32 :
    stepShows [0x2C] { State.reset with h := 0x12, l := 0xFF, f := 0x00 } [] (fun t => (t.f, t.l, t.pc, t.cycles))
      = some (0xA0, 0x00, 0x0101, 1) := by decide

/-- `DEC B`. -/
theorem test_V33 :
    stepShows [0x05] { State.reset with b := 0x01, f := 0x00 } [] (fun t => (t.f, t.b, t.pc, t.cycles))
      = some (0xC0, 0x00, 0x0101, 1) := by decide

/-- `DEC C`. -/
theorem test_V34 :
    stepShows [0x0D] { State.reset with c := 0x00, f := 0x10 } [] (fun t => (t.f, t.c, t.pc, t.cycles))
      = some (0x70, 0xFF, 0x0101, 1) := by decide

/-- `DEC C`. -/
theorem test_V35 :
    stepShows [0x0D] { State.reset with c := 0x10 } [] (fun t => (t.f, t.c, t.pc, t.cycles))
      = some (0x70, 0x0F, 0x0101, 1) := by decide

/-- `INC (HL)`. -/
theorem test_V36 :
    stepShows [0x34] { State.reset with h := 0xC0, l := 0x00, f := 0x10 } [(0xC000, 0xFF)]
      (fun t => (t.f, t.pc, t.cycles, t.bus.drop 1))
      = some (0xB0, 0x0101, 3, [.read 0xC000 0xFF, .write 0xC000 0x00]) := by decide

/-- `DEC (HL)`. -/
theorem test_V37 :
    stepShows [0x35] { State.reset with h := 0xC0, l := 0x00, f := 0x00 } [(0xC000, 0x00)]
      (fun t => (t.f, t.pc, t.cycles, t.bus.drop 1))
      = some (0x60, 0x0101, 3, [.read 0xC000 0x00, .write 0xC000 0xFF]) := by decide

/-- `INC (HL)`: write to ROM ignored. -/
theorem test_V38 :
    stepShows [0x34] { State.reset with h := 0x40, l := 0x00, f := 0x00 } [(0x4000, 0x41)]
      (fun t => (t.pc, t.cycles, t.bus.drop 1))
      = some (0x0101, 3, [.read 0x4000 0x41, .write 0x4000 0x42]) := by decide

/-- `INC BC`. -/
theorem test_V39 :
    stepShows [0x03] { State.reset with b := 0x00, c := 0xFF, f := 0xF0 } [] (fun t => (t.b, t.c, t.pc, t.cycles))
      = some (0x01, 0x00, 0x0101, 2) := by decide

/-- `INC SP`. -/
theorem test_V40 :
    stepShows [0x33] { State.reset with sp := 0xFFFF, f := 0x00 } [] (fun t => (t.sp, t.pc, t.cycles))
      = some (0x0000, 0x0101, 2) := by decide

/-- `DEC DE`. -/
theorem test_V41 :
    stepShows [0x1B] { State.reset with d := 0x00, e := 0x00, f := 0x00 } [] (fun t => (t.d, t.e, t.pc, t.cycles))
      = some (0xFF, 0xFF, 0x0101, 2) := by decide

/-- `DEC HL`. -/
theorem test_V42 :
    stepShows [0x2B] { State.reset with h := 0x01, l := 0x00, f := 0xF0 } [] (fun t => (t.h, t.l, t.pc, t.cycles))
      = some (0x00, 0xFF, 0x0101, 2) := by decide

/-- `ADD A,B`. -/
theorem test_V1 :
    stepShows [0x80] { State.reset with a := 0x3A, b := 0xC6, f := 0x00 } [] (fun t => (t.a, t.f, t.pc, t.cycles))
      = some (0x00, 0xB0, 0x0101, 1) := by decide

/-- `ADD A,A`. -/
theorem test_V2 :
    stepShows [0x87] { State.reset with a := 0x80, f := 0x00 } [] (fun t => (t.a, t.f, t.pc, t.cycles))
      = some (0x00, 0x90, 0x0101, 1) := by decide

/-- `ADD A,d8`. -/
theorem test_V3 :
    stepShows [0xC6, 0x0F] { State.reset with a := 0x01, f := 0xF0 } [] (fun t => (t.a, t.f, t.pc, t.cycles))
      = some (0x10, 0x20, 0x0102, 2) := by decide

/-- `ADC A,C`. -/
theorem test_V4 :
    stepShows [0x89] { State.reset with a := 0xE1, c := 0x0F, f := 0x10 } [] (fun t => (t.a, t.f, t.pc, t.cycles))
      = some (0xF1, 0x20, 0x0101, 1) := by decide

/-- `ADC A,d8`. -/
theorem test_V5 :
    stepShows [0xCE, 0xFF] { State.reset with a := 0x00, f := 0x10 } [] (fun t => (t.f, t.pc, t.cycles))
      = some (0xB0, 0x0102, 2) := by decide

/-- `ADC A,(HL)`. -/
theorem test_V6 :
    stepShows [0x8E] { State.reset with a := 0x0F, h := 0xC0, l := 0x00, f := 0x10 } [(0xC000, 0x00)]
      (fun t => (t.a, t.f, t.pc, t.cycles, t.bus.drop 1))
      = some (0x10, 0x20, 0x0101, 2, [.read 0xC000 0x00]) := by decide

/-- `SUB B`. -/
theorem test_V7 :
    stepShows [0x90] { State.reset with a := 0x3E, b := 0x3E, f := 0x00 } [] (fun t => (t.a, t.f, t.pc, t.cycles))
      = some (0x00, 0xC0, 0x0101, 1) := by decide

/-- `SUB d8`. -/
theorem test_V8 :
    stepShows [0xD6, 0x0F] { State.reset with a := 0x3E, f := 0x00 } [] (fun t => (t.a, t.f, t.pc, t.cycles))
      = some (0x2F, 0x60, 0x0102, 2) := by decide

/-- `SUB (HL)`. -/
theorem test_V9 :
    stepShows [0x96] { State.reset with a := 0x3E, h := 0xC0, l := 0x00, f := 0x00 } [(0xC000, 0x40)]
      (fun t => (t.a, t.f, t.pc, t.cycles, t.bus.drop 1))
      = some (0xFE, 0x50, 0x0101, 2, [.read 0xC000 0x40]) := by decide

/-- `SBC A,H`. -/
theorem test_V10 :
    stepShows [0x9C] { State.reset with a := 0x3B, h := 0x2A, f := 0x10 } [] (fun t => (t.a, t.f, t.pc, t.cycles))
      = some (0x10, 0x40, 0x0101, 1) := by decide

/-- `SBC A,d8`. -/
theorem test_V11 :
    stepShows [0xDE, 0xFF] { State.reset with a := 0x00, f := 0x10 } [] (fun t => (t.f, t.pc, t.cycles))
      = some (0xF0, 0x0102, 2) := by decide

/-- `SBC A,d8`. -/
theorem test_V12 :
    stepShows [0xDE, 0x0F] { State.reset with a := 0x10, f := 0x10 } [] (fun t => (t.a, t.f, t.pc, t.cycles))
      = some (0x00, 0xE0, 0x0102, 2) := by decide

/-- `AND L`. -/
theorem test_V13 :
    stepShows [0xA5] { State.reset with a := 0x5A, l := 0x3F, f := 0x50 } [] (fun t => (t.a, t.f, t.pc, t.cycles))
      = some (0x1A, 0x20, 0x0101, 1) := by decide

/-- `AND d8`. -/
theorem test_V14 :
    stepShows [0xE6, 0x00] { State.reset with a := 0xFF, f := 0x10 } [] (fun t => (t.a, t.f, t.pc, t.cycles))
      = some (0x00, 0xA0, 0x0102, 2) := by decide

/-- `XOR A`. -/
theorem test_V15 :
    stepShows [0xAF] { State.reset with a := 0x5A, f := 0xF0 } [] (fun t => (t.a, t.f, t.pc, t.cycles))
      = some (0x00, 0x80, 0x0101, 1) := by decide

/-- `XOR d8`. -/
theorem test_V16 :
    stepShows [0xEE, 0x0F] { State.reset with a := 0xFF, f := 0xF0 } [] (fun t => (t.a, t.f, t.pc, t.cycles))
      = some (0xF0, 0x00, 0x0102, 2) := by decide

/-- `OR C`. -/
theorem test_V17 :
    stepShows [0xB1] { State.reset with a := 0x00, c := 0x00, f := 0x70 } [] (fun t => (t.f, t.pc, t.cycles))
      = some (0x80, 0x0101, 1) := by decide

/-- `OR (HL)`. -/
theorem test_V18 :
    stepShows [0xB6] { State.reset with a := 0x5A, h := 0xC0, l := 0x00, f := 0xF0 } [(0xC000, 0x0F)]
      (fun t => (t.a, t.f, t.pc, t.cycles, t.bus.drop 1))
      = some (0x5F, 0x00, 0x0101, 2, [.read 0xC000 0x0F]) := by decide

/-- `CP B`. -/
theorem test_V19 :
    stepShows [0xB8] { State.reset with a := 0x3C, b := 0x2F, f := 0x00 } [] (fun t => (t.f, t.pc, t.cycles))
      = some (0x60, 0x0101, 1) := by decide

/-- `CP d8`. -/
theorem test_V20 :
    stepShows [0xFE, 0x3C] { State.reset with a := 0x3C, f := 0x00 } [] (fun t => (t.f, t.pc, t.cycles))
      = some (0xC0, 0x0102, 2) := by decide

/-- `CP (HL)`. -/
theorem test_V21 :
    stepShows [0xBE] { State.reset with a := 0x3C, h := 0xC0, l := 0x00, f := 0x00 } [(0xC000, 0x40)]
      (fun t => (t.f, t.pc, t.cycles, t.bus.drop 1)) = some (0x50, 0x0101, 2, [.read 0xC000 0x40]) := by decide

/-- `ADD HL,BC`. -/
theorem test_V22 :
    stepShows [0x09] { State.reset with h := 0x8A, l := 0x23, b := 0x06, c := 0x05, f := 0x80 } []
      (fun t => (t.f, t.h, t.l, t.pc, t.cycles)) = some (0xA0, 0x90, 0x28, 0x0101, 2) := by decide

/-- `ADD HL,HL`. -/
theorem test_V23 :
    stepShows [0x29] { State.reset with h := 0x8A, l := 0x23, f := 0x00 } []
      (fun t => (t.f, t.h, t.l, t.pc, t.cycles)) = some (0x30, 0x14, 0x46, 0x0101, 2) := by decide

/-- `ADD HL,SP`. -/
theorem test_V24 :
    stepShows [0x39] { State.reset with h := 0x00, l := 0x01, sp := 0xFFFF, f := 0xC0 } []
      (fun t => (t.f, t.l, t.pc, t.cycles)) = some (0xB0, 0x00, 0x0101, 2) := by decide

/-- `ADD HL,DE`. -/
theorem test_V25 :
    stepShows [0x19] { State.reset with h := 0x0F, l := 0xFF, d := 0x00, e := 0x01, f := 0x00 } []
      (fun t => (t.f, t.h, t.l, t.pc, t.cycles)) = some (0x20, 0x10, 0x00, 0x0101, 2) := by decide

/-- `JR r8`. -/
theorem test_V80 :
    stepShows [0x18, 0x05] State.reset [] (fun t => (t.pc, t.cycles)) = some (0x0107, 3) := by decide

/-- `JR r8`: jumps to itself. -/
theorem test_V81 :
    stepShows [0x18, 0xFE] State.reset [] (fun t => (t.pc, t.cycles)) = some (0x0100, 3) := by decide

/-- `JR NZ,r8`: Z=1: not taken. -/
theorem test_V83 :
    stepShows [0x20, 0x10] { State.reset with f := 0x80 } [] (fun t => (t.pc, t.cycles))
      = some (0x0102, 2) := by decide

/-- `JR NZ,r8`: Z=0: taken. -/
theorem test_V84 :
    stepShows [0x20, 0x10] { State.reset with f := 0x00 } [] (fun t => (t.pc, t.cycles))
      = some (0x0112, 3) := by decide

/-- `JR Z,r8`: taken, backwards. -/
theorem test_V85 :
    stepShows [0x28, 0xFB] { State.reset with f := 0x80 } [] (fun t => (t.pc, t.cycles))
      = some (0x00FD, 3) := by decide

/-- `JR NC,r8`: taken, most positive. -/
theorem test_V86 :
    stepShows [0x30, 0x7F] { State.reset with f := 0x00 } [] (fun t => (t.pc, t.cycles))
      = some (0x0181, 3) := by decide

/-- `JR C,r8`: not taken. -/
theorem test_V87 :
    stepShows [0x38, 0x02] { State.reset with f := 0x00 } [] (fun t => (t.pc, t.cycles))
      = some (0x0102, 2) := by decide

/-- `JP a16`. -/
theorem test_V89 :
    stepShows [0xC3, 0x34, 0x12] State.reset [] (fun t => (t.pc, t.cycles)) = some (0x1234, 4) := by decide

/-- `JP NZ,a16`: not taken. -/
theorem test_V90 :
    stepShows [0xC2, 0x00, 0x20] { State.reset with f := 0x80 } [] (fun t => (t.pc, t.cycles))
      = some (0x0103, 3) := by decide

/-- `JP C,a16`: taken. -/
theorem test_V91 :
    stepShows [0xDA, 0x00, 0x20] { State.reset with f := 0x10 } [] (fun t => (t.pc, t.cycles))
      = some (0x2000, 4) := by decide

/-- `JP HL`. -/
theorem test_V92 :
    stepShows [0xE9] { State.reset with h := 0xC0, l := 0x00 } [] (fun t => (t.pc, t.cycles))
      = some (0xC000, 1) := by decide

/-- `CALL a16`. -/
theorem test_V93 :
    stepShows [0xCD, 0x00, 0x20] State.reset [] (fun t => (t.sp, t.pc, t.cycles, t.bus.drop 3))
      = some (0xFFFC, 0x2000, 6, [.write 0xFFFD 0x01, .write 0xFFFC 0x03]) := by decide

/-- `CALL Z,a16`: not taken: no stack access. -/
theorem test_V94 :
    stepShows [0xCC, 0x00, 0x20] { State.reset with f := 0x00 } [] (fun t => (t.pc, t.cycles))
      = some (0x0103, 3) := by decide

/-- `CALL NC,a16`: taken. -/
theorem test_V95 :
    stepShows [0xD4, 0x00, 0x20] { State.reset with f := 0x00 } [] (fun t => (t.sp, t.pc, t.cycles, t.bus.drop 3))
      = some (0xFFFC, 0x2000, 6, [.write 0xFFFD 0x01, .write 0xFFFC 0x03]) := by decide

/-- `CALL a16`: SP wraps to 0xFFFF; high byte written to 0x0000 (ROM, ignored), low byte to 0xFFFF (unsupported, dropped). -/
theorem test_V96 :
    stepShows [0xCD, 0x00, 0x20] { State.reset with sp := 0x0001 } []
      (fun t => (t.sp, t.pc, t.cycles, t.bus.drop 3))
      = some (0xFFFF, 0x2000, 6, [.write 0x0000 0x01, .write 0xFFFF 0x03]) := by decide

/-- `RET`. -/
theorem test_V97 :
    stepShows [0xC9] { State.reset with sp := 0xC000 } [(0xC000, 0x34), (0xC001, 0x12)]
      (fun t => (t.sp, t.pc, t.cycles, t.bus.drop 1))
      = some (0xC002, 0x1234, 4, [.read 0xC000 0x34, .read 0xC001 0x12]) := by decide

/-- `RET NZ`: not taken. -/
theorem test_V98 :
    stepShows [0xC0] { State.reset with f := 0x80, sp := 0xC000 } [(0xC000, 0x34), (0xC001, 0x12)]
      (fun t => (t.pc, t.cycles)) = some (0x0101, 2) := by decide

/-- `RET C`: taken. -/
theorem test_V99 :
    stepShows [0xD8] { State.reset with f := 0x10, sp := 0xC000 } [(0xC000, 0x34), (0xC001, 0x12)]
      (fun t => (t.sp, t.pc, t.cycles, t.bus.drop 1))
      = some (0xC002, 0x1234, 5, [.read 0xC000 0x34, .read 0xC001 0x12]) := by decide

/-- `RETI`: as RET. -/
theorem test_V100 :
    stepShows [0xD9] { State.reset with sp := 0xC000 } [(0xC000, 0x34), (0xC001, 0x12)]
      (fun t => (t.sp, t.pc, t.cycles, t.bus.drop 1))
      = some (0xC002, 0x1234, 4, [.read 0xC000 0x34, .read 0xC001 0x12]) := by decide

/-- `RET`: high byte read from 0xFFFF = SENTINEL; SP wraps to 0x0000. -/
theorem test_V101 :
    stepShows [0xC9] { State.reset with sp := 0xFFFE } [(0xFFFE, 0x21)]
      (fun t => (t.sp, t.pc, t.cycles, t.bus.drop 1))
      = some (0x0000, 0xFF21, 4, [.read 0xFFFE 0x21, .read 0xFFFF 0xFF]) := by decide

/-- `PUSH BC`. -/
theorem test_V110 :
    stepShows [0xC5] { State.reset with b := 0x12, c := 0x34 } [] (fun t => (t.sp, t.pc, t.cycles, t.bus.drop 1))
      = some (0xFFFC, 0x0101, 4, [.write 0xFFFD 0x12, .write 0xFFFC 0x34]) := by decide

/-- `PUSH AF`. -/
theorem test_V111 :
    stepShows [0xF5] { State.reset with a := 0x12, f := 0xF0 } [] (fun t => (t.sp, t.pc, t.cycles, t.bus.drop 1))
      = some (0xFFFC, 0x0101, 4, [.write 0xFFFD 0x12, .write 0xFFFC 0xF0]) := by decide

/-- `POP DE`. -/
theorem test_V112 :
    stepShows [0xD1] { State.reset with sp := 0xC000 } [(0xC000, 0xCD), (0xC001, 0xAB)]
      (fun t => ((t.d, t.e, t.sp), t.pc, t.cycles, t.bus.drop 1))
      = some ((0xAB, 0xCD, 0xC002), 0x0101, 3, [.read 0xC000 0xCD, .read 0xC001 0xAB]) := by decide

/-- `POP AF`: low nibble of F cleared. -/
theorem test_V113 :
    stepShows [0xF1] { State.reset with sp := 0xC000 } [(0xC000, 0xFF), (0xC001, 0x12)]
      (fun t => ((t.a, t.f, t.sp), t.pc, t.cycles, t.bus.drop 1))
      = some ((0x12, 0xF0, 0xC002), 0x0101, 3, [.read 0xC000 0xFF, .read 0xC001 0x12]) := by decide

/-- `PUSH HL`: straddles 0xC000/0xBFFF: high to WRAM, low to cartridge RAM. -/
theorem test_V115 :
    stepShows [0xE5] { State.reset with sp := 0xC001, h := 0xBE, l := 0xEF } []
      (fun t => (t.sp, t.pc, t.cycles, t.bus.drop 1))
      = some (0xBFFF, 0x0101, 4, [.write 0xC000 0xBE, .write 0xBFFF 0xEF]) := by decide

/-- `RST 00H`. -/
theorem test_V117 :
    stepShows [0xC7] State.reset [] (fun t => (t.sp, t.pc, t.cycles, t.bus.drop 1))
      = some (0xFFFC, 0x0000, 4, [.write 0xFFFD 0x01, .write 0xFFFC 0x01]) := by decide

/-- `RST 38H`. -/
theorem test_V118 :
    stepShows [0xFF] State.reset [] (fun t => (t.sp, t.pc, t.cycles, t.bus.drop 1))
      = some (0xFFFC, 0x0038, 4, [.write 0xFFFD 0x01, .write 0xFFFC 0x01]) := by decide

/-- `RST 18H`. -/
theorem test_V119 :
    stepShows [0xDF] { State.reset with sp := 0xD000, pc := 0xC123 } []
      (fun t => (t.sp, t.pc, t.cycles, t.bus.drop 1))
      = some (0xCFFE, 0x0018, 4, [.write 0xCFFF 0xC1, .write 0xCFFE 0x24]) := by decide

/-- `SCF`. -/
theorem test_V120 :
    stepShows [0x37] { State.reset with f := 0xE0 } [] (fun t => (t.f, t.pc, t.cycles))
      = some (0x90, 0x0101, 1) := by decide

/-- `SCF`. -/
theorem test_V121 :
    stepShows [0x37] { State.reset with f := 0x00 } [] (fun t => (t.f, t.pc, t.cycles))
      = some (0x10, 0x0101, 1) := by decide

/-- `CCF`. -/
theorem test_V122 :
    stepShows [0x3F] { State.reset with f := 0xF0 } [] (fun t => (t.f, t.pc, t.cycles))
      = some (0x80, 0x0101, 1) := by decide

/-- `CCF`. -/
theorem test_V123 :
    stepShows [0x3F] { State.reset with f := 0x00 } [] (fun t => (t.f, t.pc, t.cycles))
      = some (0x10, 0x0101, 1) := by decide

/-- `CPL`. -/
theorem test_V124 :
    stepShows [0x2F] { State.reset with a := 0x35, f := 0x00 } [] (fun t => (t.a, t.f, t.pc, t.cycles))
      = some (0xCA, 0x60, 0x0101, 1) := by decide

/-- `CPL`. -/
theorem test_V125 :
    stepShows [0x2F] { State.reset with a := 0xFF, f := 0x90 } [] (fun t => (t.a, t.f, t.pc, t.cycles))
      = some (0x00, 0xF0, 0x0101, 1) := by decide

/-- `DAA`. -/
theorem test_V126 :
    stepShows [0x27] { State.reset with a := 0x3C, f := 0x00 } [] (fun t => (t.a, t.pc, t.cycles))
      = some (0x42, 0x0101, 1) := by decide

/-- `DAA`. -/
theorem test_V127 :
    stepShows [0x27] { State.reset with a := 0x9A, f := 0x00 } [] (fun t => (t.a, t.f, t.pc, t.cycles))
      = some (0x00, 0x90, 0x0101, 1) := by decide

/-- `RLCA`. -/
theorem test_V135 :
    stepShows [0x07] { State.reset with a := 0x85, f := 0xF0 } [] (fun t => (t.a, t.f, t.pc, t.cycles))
      = some (0x0B, 0x10, 0x0101, 1) := by decide

/-- `RLCA`: Z cleared though A is 0. -/
theorem test_V136 :
    stepShows [0x07] { State.reset with a := 0x00, f := 0x80 } [] (fun t => (t.f, t.pc, t.cycles))
      = some (0x00, 0x0101, 1) := by decide

/-- `RRCA`. -/
theorem test_V137 :
    stepShows [0x0F] { State.reset with a := 0x01, f := 0x00 } [] (fun t => (t.a, t.f, t.pc, t.cycles))
      = some (0x80, 0x10, 0x0101, 1) := by decide

/-- `RLA`: A becomes 0, Z stays 0. -/
theorem test_V138 :
    stepShows [0x17] { State.reset with a := 0x80, f := 0x00 } [] (fun t => (t.a, t.f, t.pc, t.cycles))
      = some (0x00, 0x10, 0x0101, 1) := by decide

/-- `RLA`. -/
theorem test_V139 :
    stepShows [0x17] { State.reset with a := 0x95, f := 0x10 } [] (fun t => (t.a, t.pc, t.cycles))
      = some (0x2B, 0x0101, 1) := by decide

/-- `RRA`. -/
theorem test_V140 :
    stepShows [0x1F] { State.reset with a := 0x81, f := 0x00 } [] (fun t => (t.a, t.f, t.pc, t.cycles))
      = some (0x40, 0x10, 0x0101, 1) := by decide

/-- `RRA`. -/
theorem test_V141 :
    stepShows [0x1F] { State.reset with a := 0x00, f := 0x10 } [] (fun t => (t.a, t.f, t.pc, t.cycles))
      = some (0x80, 0x00, 0x0101, 1) := by decide

/-- `NOP`. -/
theorem test_V150 :
    stepShows [0x00] State.reset [] (fun t => (t.pc, t.cycles)) = some (0x0101, 1) := by decide

/-- `HALT`. -/
theorem test_V151 :
    stepShows [0x76] State.reset [] (fun t => (t.pc, t.cycles, t.halted)) = some (0x0101, 1, true) := by decide

/-- `DI`. -/
theorem test_V154 :
    stepShows [0xF3] State.reset [] (fun t => (t.pc, t.cycles)) = some (0x0101, 1) := by decide

/-- `EI`. -/
theorem test_V155 :
    stepShows [0xFB] State.reset [] (fun t => (t.pc, t.cycles)) = some (0x0101, 1) := by decide

/-- `UNDEF_D3`. -/
theorem test_V156 :
    stepShows [0xD3] State.reset [] (fun t => (t.pc, t.cycles)) = some (0x0101, 1) := by decide

/-- `UNDEF_E4`: no operand consumed. -/
theorem test_V159 :
    stepShows [0xE4, 0x34, 0x12] State.reset [] (fun t => (t.pc, t.cycles)) = some (0x0101, 1) := by decide

/-- `LD HL,SP+r8`. -/
theorem test_V160 :
    stepShows [0xF8, 0x02] { State.reset with sp := 0xFFF8 } [] (fun t => (t.f, t.h, t.l, t.pc, t.cycles))
      = some (0x00, 0xFF, 0xFA, 0x0102, 3) := by decide

/-- `LD HL,SP+r8`. -/
theorem test_V161 :
    stepShows [0xF8, 0x08] { State.reset with sp := 0xFFF8, f := 0xC0 } []
      (fun t => (t.f, t.h, t.l, t.pc, t.cycles)) = some (0x30, 0x00, 0x00, 0x0102, 3) := by decide

/-- `ADD SP,r8`. -/
theorem test_V165 :
    stepShows [0xE8, 0xFE] { State.reset with sp := 0xD000 } [] (fun t => (t.f, t.sp, t.pc, t.cycles))
      = some (0x00, 0xCFFE, 0x0102, 4) := by decide

/-- `ADD SP,r8`. -/
theorem test_V166 :
    stepShows [0xE8, 0x10] { State.reset with sp := 0x00F0 } [] (fun t => (t.f, t.sp, t.pc, t.cycles))
      = some (0x10, 0x0100, 0x0102, 4) := by decide

/-- `LD BC,d16`: opcode at 0xFFFE (high RAM), low operand byte from 0xFFFF = SENTINEL, high from 0x0000; PC wraps. -/
theorem test_V170 :
    stepShows [0x01] { State.reset with pc := 0xFFFE } [(0x0000, 0x12)] (fun t => (t.b, t.c, t.pc, t.cycles, t.bus))
      = some (0x12, 0xFF, 0x0001, 3, [.read 0xFFFE 0x01, .read 0xFFFF 0xFF, .read 0x0000 0x12]) := by decide

/-- `(fetch from unsupported)`: opcode read = SENTINEL = 0xFF = RST 38H. -/
theorem test_V171 :
    stepShows [] { State.reset with pc := 0xE000 } [] (fun t => (t.sp, t.pc, t.cycles, t.bus.drop 1))
      = some (0xFFFC, 0x0038, 4, [.write 0xFFFD 0xE0, .write 0xFFFC 0x01]) := by decide

/-! ## Witnesses: for every statement with hypotheses, a state and operands that meet them -/

/-- A running state with the bytes of `JP 0x1234` at PC. -/
def atJp : State := State.reset.withFetchWord 24 0x1234C3

/-- A halted state. -/
def asleep : State := { State.reset with halted := true }

/-- Reset with a stack pointer and four flags. -/
def withSp (sp : Word) (f : Byte) : State := { State.reset with sp := sp, f := f }

/-- `ResetMeetsInvariant`, and the premise `s.Inv` of `StepKeepsInvariant` and `EveryRunIsSafeAndKeepsInvariant`. -/
theorem reset_inv : State.reset.Inv := ⟨by decide, reset_mem_wf⟩

/-- `StepRunsDecodedInstruction`, `PcAdvances…`, `StepsCostAndAccess…`, `AbsoluteJumpCompletes`. -/
theorem test_witness_decode_premise :
    atJp.halted = false ∧ bytesAt atJp atJp.pc 3 = [0xC3, 0x34, 0x12] ∧
    decode (bytesAt atJp atJp.pc 3) = .ok (.jpA16 0x1234) [] := by decide

/-- The same with a one-byte instruction, whose `rest` is not empty. -/
theorem test_witness_decode_premise_rest :
    (State.reset.withFetchWord 8 0x3C).halted = false ∧
    decode (bytesAt (State.reset.withFetchWord 8 0x3C) 0x0100 3) = .ok .incA [0x00, 0x00] := by decide

/-- `HaltedStepOnlyCountsOneCycle`, `HaltStopsUntilWoken`, `HaltedChangesOnlyByHaltWakeReset` (its last clause). -/
theorem test_witness_halted :
    asleep.halted = true ∧ step asleep = .next { asleep with cycles := 1 } ∧
    asleep.run (List.replicate 2 .step) = .next { asleep with cycles := 2 } := ⟨rfl, rfl, rfl⟩

/-- `HaltedChangesOnlyByHaltWakeReset`, first and second clause; `FlagsChangeAsTabulated` on a row that keeps. -/
theorem test_witness_exec_next :
    exec .halt State.reset = .next { State.reset with halted := true, cycles := 1 } ∧ Instr.nop ≠ .halt ∧
    exec .nop State.reset = .next { State.reset with cycles := 1 } := ⟨rfl, by decide, rfl⟩

/-- `StepKeepsInvariant`, `EveryRun…`, `DiagnosticStateIsNeverRead`: a step from a running state, with `Inv`. -/
theorem test_witness_step_next :
    atJp.Inv ∧ step atJp = .next { atJp with
      pc := 0x1234, opcode := 0xC3, cycles := 4
      bus := [.read 0x0100 0xC3, .read 0x0101 0x34, .read 0x0102 0x12] } := ⟨by decide, rfl⟩

/-- `DecoderIsTotalAndExact`: one byte short of the length, exactly the length, and more. -/
theorem test_witness_decoder :
    [(0x34 : Byte)].length + 1 < lengthOfOpcode 0xC3 ∧ lengthOfOpcode 0xC3 ≤ [(0x34 : Byte), 0x12].length + 1 ∧
    decode [0xC3, 0x34, 0x12, 0x76] = .ok (.jpA16 0x1234) [0x76] := by decide

/-- `AfMasksTheLowNibble`. -/
theorem test_witness_flags_clean : State.reset.flagsClean ∧ State.reset.af = 0x01B0 := by decide

/-- `FlagWritesTouchOnlyTheirBits`: the first and last flag bit, the bit itself and its neighbour below. -/
theorem test_witness_flag_bits :
    (writeBit 0x0F 4 true).getLsbD 4 = true ∧ (writeBit 0x0F 4 true).getLsbD 3 = true ∧
    (writeBit 0xFF 7 false).getLsbD 7 = false ∧ (writeBit 0xFF 7 false).getLsbD 6 = true := by decide

/-- `FlagsChangeAsTabulated`: a row with every mark but 1 (`INC r`), a row with 1, and `POP AF`. -/
theorem test_witness_flag_marks :
    flagMarks .incB = (.computed, .zero, .computed, .keep) ∧ flagMarks .cpl = (.keep, .one, .one, .keep) ∧
    flagMarks .popAf = (.computed, .computed, .computed, .computed) := by decide

/-- `RegistersOutsideTheFootprintKeep`: each premise of each clause. -/
theorem test_witness_footprint :
    Reg8.a ∉ regsWritten .ldBC ∧ writesSp .ldBC = false ∧ controlTarget .ldBC State.reset = none ∧
    exec .ldBC State.reset = .next { State.reset with b := 0x13, cycles := 1 } :=
  ⟨by decide, by decide, by decide, rfl⟩

/-- The same for a conditional transfer that is not taken (Z is set at reset). -/
theorem test_witness_footprint_not_taken :
    controlTarget (.jpNzA16 0x2000) State.reset = none ∧ controlTarget (.jpZA16 0x2000) State.reset = some 0x2000 := by
  decide

/-- `MemoryOutsideTheStoresKeeps`: an address beside the two stored ones, and one of them where nothing is stored. -/
theorem test_witness_outside_stores :
    (0xC003 : Word) ∉ storeAddresses (.ldIndA16Sp 0xC001) State.reset ∧
    (0xE000 : Word) ∈ storeAddresses (.ldIndA16Sp 0xDFFF) State.reset ∧ storable 0xE000 = false ∧
    storeAddresses .pushBc (withSp 0xC000 0) = [0xBFFF, 0xBFFE] := by decide

/-- `CartridgeRomIsImmutable`: the first and last ROM address, and a run with every event. -/
theorem test_witness_rom_run :
    (0x0000 : Word).toNat ≤ 0x7FFF ∧ (0x7FFF : Word).toNat ≤ 0x7FFF ∧ ¬ (0x8000 : Word).toNat ≤ 0x7FFF ∧
    asleep.run [.step, .wake, .reset] = .next State.reset := ⟨by decide, by decide, by decide, rfl⟩

/-- `WorkingRamKeepsTheLastByteWritten`: the first and last address, and a different one. -/
theorem test_witness_working_ram :
    0xC000 ≤ (0xC000 : Word).toNat ∧ (0xDFFF : Word).toNat ≤ 0xDFFF ∧ (0xC000 : Word) ≠ 0xDFFF ∧
    ((State.reset.memWrite 0xC000 0x5A).memWrite 0xDFFF 0xA5).readByte 0xC000 = 0x5A := by decide

/-- `RegionMapAndSentinel`: the ends of the three unbacked ranges and their backed neighbours. -/
theorem test_witness_unbacked :
    unbacked 0x8000 = true ∧ unbacked 0x9FFF = true ∧ unbacked 0xE000 = true ∧ unbacked 0xFF7F = true ∧
    unbacked 0xFFFF = true ∧ unbacked 0x7FFF = false ∧ unbacked 0xA000 = false ∧ unbacked 0xDFFF = false ∧
    unbacked 0xFF80 = false ∧ unbacked 0xFFFE = false := by decide

/-- The ends of every region (20_memory.md R63): no address falls under two. -/
theorem test_region_ends :
    region 0x0000 = .cartRom ∧ region 0x7FFF = .cartRom ∧ region 0x8000 = .video ∧ region 0x9FFF = .video ∧
    region 0xA000 = .cartRam ∧ region 0xBFFF = .cartRam ∧ region 0xC000 = .workRam ∧ region 0xDFFF = .workRam ∧
    region 0xE000 = .unsupported ∧ region 0xFF7F = .unsupported ∧ region 0xFF80 = .highRam ∧
    region 0xFFFE = .highRam ∧ region 0xFFFF = .unsupported := by decide

/-- `BusWriteStoresByRegion`: the ends of what stores a write, and their neighbours. -/
theorem test_witness_storable :
    storable 0xA000 = true ∧ storable 0xDFFF = true ∧ storable 0xFF80 = true ∧ storable 0xFFFE = true ∧
    storable 0x9FFF = false ∧ storable 0xE000 = false ∧ storable 0xFF7F = false ∧ storable 0xFFFF = false := by decide

/-- `DaaAdjustsToPackedBcd`: the least and greatest digits, and what is no packed BCD. -/
theorem test_witness_bcd :
    isBcd 0x00 = true ∧ isBcd 0x99 = true ∧ isBcd 0x38 = true ∧ isBcd 0x9A = false ∧ isBcd 0xA0 = false ∧
    bcdValue 0x99 = 99 := by decide

/-- Conditional jumps, calls and returns: every condition both ways. -/
theorem test_witness_conditions :
    conditionOf (withSp 0 0x80) .z = true ∧ conditionOf (withSp 0 0x80) .nz = false ∧
    conditionOf (withSp 0 0x00) .z = false ∧ conditionOf (withSp 0 0x00) .nz = true ∧
    conditionOf (withSp 0 0x10) .c = true ∧ conditionOf (withSp 0 0x10) .nc = false ∧
    conditionOf (withSp 0 0x00) .c = false ∧ conditionOf (withSp 0 0x00) .nc = true := by decide

/-- `StackPrimitivesFollowTheirContract`, third clause: the ends of the unbacked ranges that hold two bytes. -/
theorem test_witness_unbacked_stack :
    (unbacked (withSp 0x8000 0).sp = true ∧ unbacked ((withSp 0x8000 0).sp + 1) = true) ∧
    (unbacked (withSp 0x9FFE 0).sp = true ∧ unbacked ((withSp 0x9FFE 0).sp + 1) = true) ∧
    (unbacked (withSp 0xFF7E 0).sp = true ∧ unbacked ((withSp 0xFF7E 0).sp + 1) = true) := by decide

/-- `StackPrimitivesFollowTheirContract`, last clause, and `StackRoundTripsRestore`: the ends of where both stack
bytes are stored. -/
theorem test_witness_stored_stack :
    (storable ((withSp 0xA002 0).sp - 1) = true ∧ storable ((withSp 0xA002 0).sp - 2) = true) ∧
    (storable ((withSp 0xE000 0).sp - 1) = true ∧ storable ((withSp 0xE000 0).sp - 2) = true) ∧
    (storable ((withSp 0xFF82 0).sp - 1) = true ∧ storable ((withSp 0xFF82 0).sp - 2) = true) ∧
    (storable ((withSp 0xFFFF 0).sp - 1) = true ∧ storable ((withSp 0xFFFF 0).sp - 2) = true) := by decide

/-- `AbsoluteJumpCompletes`, last clause: a running state, and the first and last unbacked targets. -/
theorem test_witness_jump_unbacked :
    State.reset.halted = false ∧ unbacked 0x8000 = true ∧ unbacked 0xFFFF = true := by decide

/-- The host's placement runs the placed instruction as the next step, also from a PC with nothing behind it. -/
theorem test_fetch_word_runs :
    (State.reset.withFetchWord 8 0x3C).pc = 0x0100 ∧
    ({ State.reset with pc := 0x8000, halted := true } : State).withFetchWord 8 0x3C =
      State.reset.withFetchWord 8 0x3C := by decide

end Sys2Proof.Tests
end

section
/-! SUPPORT. Proofs of the statements about the state (10_state.md): what running an instruction can do, and the
register file, the pairs and the flags. -/

namespace Sys2Proof.Machine

/-! ## What running an instruction can do -/

/-- The shared forms of the meanings of all instructions but `HALT`, one constructor per form: an invariant of `exec`
is a case analysis of the forms, and not of the opcode map. -/
inductive ExecEffect (s : State) : State → Prop where
  | loadRegReg (dst src : Reg8) : ExecEffect s (loadRegReg dst src s)
  | loadRegFrom (dst : Reg8) (addr : Word) (cost : Nat) : ExecEffect s (loadRegFrom dst addr cost s)
  | loadRegImm (dst : Reg8) (v : Byte) : ExecEffect s (loadRegImm dst v s)
  | storeByte (addr : Word) (v : Byte) (cost : Nat) : ExecEffect s (storeByte addr v cost s)
  | loadAPost (newHl : Word) : ExecEffect s (loadAPost newHl s)
  | storeAPost (newHl : Word) : ExecEffect s (storeAPost newHl s)
  | loadPairImm (p : Pair) (v : Word) : ExecEffect s (loadPairImm p v s)
  | loadSpFromHl : ExecEffect s (loadSpFromHl s)
  | storeSp (addr : Word) : ExecEffect s (storeSp addr s)
  | stepReg (op : Byte → Alu8) (r : Reg8) : ExecEffect s (stepReg op r s)
  | stepIndHl (op : Byte → Alu8) : ExecEffect s (stepIndHl op s)
  | stepPair (op : Word → Word) (p : Pair) : ExecEffect s (stepPair op p s)
  | aluReg (op : AluOp) (r : Reg8) : ExecEffect s (aluReg op r s)
  | aluIndHl (op : AluOp) : ExecEffect s (aluIndHl op s)
  | aluImm (op : AluOp) (v : Byte) : ExecEffect s (aluImm op v s)
  | addHl (p : Pair) : ExecEffect s (addHl p s)
  | jumpRelative (d : Byte) : ExecEffect s (jumpRelative d s)
  | jumpRelativeIf (cc : Cond) (d : Byte) : ExecEffect s (jumpRelativeIf cc d s)
  | jumpAbsolute (t : Word) : ExecEffect s (jumpAbsolute t s)
  | jumpAbsoluteIf (cc : Cond) (t : Word) : ExecEffect s (jumpAbsoluteIf cc t s)
  | jumpHl : ExecEffect s (jumpHl s)
  | callAbsolute (t : Word) : ExecEffect s (callAbsolute t s)
  | callAbsoluteIf (cc : Cond) (t : Word) : ExecEffect s (callAbsoluteIf cc t s)
  | returnFromCall : ExecEffect s (returnFromCall s)
  | returnIf (cc : Cond) : ExecEffect s (returnIf cc s)
  | pushPair (p : StackPair) : ExecEffect s (pushPair p s)
  | popPair (p : StackPair) : ExecEffect s (popPair p s)
  | restart (y : Fin 8) : ExecEffect s (restart y s)
  | setCarry : ExecEffect s (setCarry s)
  | complementCarry : ExecEffect s (complementCarry s)
  | complementA : ExecEffect s (complementA s)
  | adjustA (out : Alu8) : ExecEffect s (adjustA out s)
  | noOperation (cost : Nat) : ExecEffect s (noOperation cost s)
  | loadHlSpPlus (d : Byte) : ExecEffect s (loadHlSpPlus d s)
  | addToSp (d : Byte) : ExecEffect s (addToSp d s)

/-- The meaning of `HALT`, the one instruction that `ExecEffect` leaves out. -/
theorem exec_halt (s : State) : exec .halt s = .next (enterHalted s) := rfl

/-- Every instruction but `HALT` completes, by one of the shared forms. -/
theorem exec_effect {i : Instr} (hi : i ≠ .halt) (s : State) : ∃ t, exec i s = .next t ∧ ExecEffect s t := by
  cases i with
  | ldBB | ldBC | ldBD | ldBE | ldBH | ldBL | ldBA | ldCB | ldCC | ldCD | ldCE | ldCH | ldCL | ldCA | ldDB | ldDC
    | ldDD | ldDE | ldDH | ldDL | ldDA | ldEB | ldEC | ldED | ldEE | ldEH | ldEL | ldEA | ldHB | ldHC | ldHD | ldHE
    | ldHH | ldHL | ldHA | ldLB | ldLC | ldLD | ldLE | ldLH | ldLL | ldLA | ldAB | ldAC | ldAD | ldAE | ldAH | ldAL
    | ldAA => exact ⟨_, rfl, .loadRegReg _ _⟩
  | ldAIndBc | ldAIndDe | ldBIndHl | ldCIndHl | ldDIndHl | ldEIndHl | ldHIndHl | ldLIndHl | ldAIndHl | ldhAIndA8
    | ldAIndC | ldAIndA16 => exact ⟨_, rfl, .loadRegFrom _ _ _⟩
  | ldBD8 | ldCD8 | ldDD8 | ldED8 | ldHD8 | ldLD8 | ldAD8 => exact ⟨_, rfl, .loadRegImm _ _⟩
  | ldIndBcA | ldIndDeA | ldIndHlD8 | ldIndHlB | ldIndHlC | ldIndHlD | ldIndHlE | ldIndHlH | ldIndHlL | ldIndHlA
    | ldhIndA8A | ldIndCA | ldIndA16A => exact ⟨_, rfl, .storeByte _ _ _⟩
  | ldAIndHlInc | ldAIndHlDec => exact ⟨_, rfl, .loadAPost _⟩
  | ldIndHlIncA | ldIndHlDecA => exact ⟨_, rfl, .storeAPost _⟩
  | ldBcD16 | ldDeD16 | ldHlD16 | ldSpD16 => exact ⟨_, rfl, .loadPairImm _ _⟩
  | ldSpHl => exact ⟨_, rfl, .loadSpFromHl⟩
  | ldIndA16Sp => exact ⟨_, rfl, .storeSp _⟩
  | incB | decB | incC | decC | incD | decD | incE | decE | incH | decH | incL | decL | incA | decA
    => exact ⟨_, rfl, .stepReg _ _⟩
  | incIndHl | decIndHl => exact ⟨_, rfl, .stepIndHl _⟩
  | incBc | decBc | incDe | decDe | incHl | decHl | incSp | decSp => exact ⟨_, rfl, .stepPair _ _⟩
  | addAB | addAC | addAD | addAE | addAH | addAL | addAA | adcAB | adcAC | adcAD | adcAE | adcAH | adcAL | adcAA
    | subB | subC | subD | subE | subH | subL | subA | sbcAB | sbcAC | sbcAD | sbcAE | sbcAH | sbcAL | sbcAA | andB
    | andC | andD | andE | andH | andL | andA | xorB | xorC | xorD | xorE | xorH | xorL | xorA | orB | orC | orD
    | orE | orH | orL | orA | cpB | cpC | cpD | cpE | cpH | cpL | cpA => exact ⟨_, rfl, .aluReg _ _⟩
  | addAIndHl | adcAIndHl | subIndHl | sbcAIndHl | andIndHl | xorIndHl | orIndHl | cpIndHl
    => exact ⟨_, rfl, .aluIndHl _⟩
  | addAD8 | adcAD8 | subD8 | sbcAD8 | andD8 | xorD8 | orD8 | cpD8 => exact ⟨_, rfl, .aluImm _ _⟩
  | addHlBc | addHlDe | addHlHl | addHlSp => exact ⟨_, rfl, .addHl _⟩
  | jrR8 => exact ⟨_, rfl, .jumpRelative _⟩
  | jrNzR8 | jrZR8 | jrNcR8 | jrCR8 => exact ⟨_, rfl, .jumpRelativeIf _ _⟩
  | jpA16 => exact ⟨_, rfl, .jumpAbsolute _⟩
  | jpNzA16 | jpZA16 | jpNcA16 | jpCA16 => exact ⟨_, rfl, .jumpAbsoluteIf _ _⟩
  | jpHl => exact ⟨_, rfl, .jumpHl⟩
  | callA16 => exact ⟨_, rfl, .callAbsolute _⟩
  | callNzA16 | callZA16 | callNcA16 | callCA16 => exact ⟨_, rfl, .callAbsoluteIf _ _⟩
  | ret | reti => exact ⟨_, rfl, .returnFromCall⟩
  | retNz | retZ | retNc | retC => exact ⟨_, rfl, .returnIf _⟩
  | pushBc | pushDe | pushHl | pushAf => exact ⟨_, rfl, .pushPair _⟩
  | popBc | popDe | popHl | popAf => exact ⟨_, rfl, .popPair _⟩
  | rst00H | rst08H | rst10H | rst18H | rst20H | rst28H | rst30H | rst38H => exact ⟨_, rfl, .restart _⟩
  | scf => exact ⟨_, rfl, .setCarry⟩
  | ccf => exact ⟨_, rfl, .complementCarry⟩
  | cpl => exact ⟨_, rfl, .complementA⟩
  | rlca | rrca | rla | rra | daa => exact ⟨_, rfl, .adjustA _⟩
  | nop | stop | prefixCb | undefD3 | undefDB | undefDD | undefE3 | undefE4 | undefEB | undefEC | undefED | di
    | undefF4 | ei | undefFC | undefFD => exact ⟨_, rfl, .noOperation _⟩
  | halt => exact absurd rfl hi
  | ldHlSpR8 => exact ⟨_, rfl, .loadHlSpPlus _⟩
  | addSpR8 => exact ⟨_, rfl, .addToSp _⟩

/-- The same, read from the state reached. -/
theorem effect_of_exec {i : Instr} (hi : i ≠ .halt) {s t : State} (h : exec i s = .next t) : ExecEffect s t := by
  obtain ⟨u, hu, he⟩ := exec_effect hi s
  rw [hu] at h
  exact Host.Outcome.next.inj h ▸ he

/-- No form writes `halted` (R35). -/
theorem ExecEffect.halted {s t : State} (h : ExecEffect s t) : t.halted = s.halted := by
  cases h
  -- a destination that is an operand
  case loadRegReg => exact State.setReg_halted ..
  case loadRegFrom => exact State.setReg_halted ..
  case loadRegImm => exact State.setReg_halted ..
  case stepReg => exact State.setReg_halted ..
  case loadPairImm => exact State.setPair_halted ..
  case stepPair => exact State.setPair_halted ..
  case popPair => exact State.setStackPair_halted ..
  -- both outcomes of a condition
  case jumpRelativeIf => rw [jumpRelativeIf_eq]
  case jumpAbsoluteIf => rw [jumpAbsoluteIf_eq]
  case callAbsoluteIf => rw [callAbsoluteIf_eq]
  case returnIf => rw [returnIf_eq]
  -- every other form is one record update, which leaves `halted` out
  all_goals rfl

/-- While halted a step keeps `halted`, PC and `opcode`, and makes no bus access (R35, R147). -/
theorem step_halted_frame {s t : State} (hs : s.halted = true) (h : step s = .next t) :
    t.halted = true ∧ t.pc = s.pc ∧ t.opcode = s.opcode ∧ t.bus = [] := by
  rw [step_halted hs] at h
  obtain rfl := Host.Outcome.next.inj h
  exact ⟨hs, rfl, rfl, rfl⟩

/-- Settles O7: `HALT` by its meaning, every other instruction by its form, and the halted step is the idle one. -/
theorem haltedChangesOnlyByHaltWakeReset : Obligations.HaltedChangesOnlyByHaltWakeReset := by
  unfold Obligations.HaltedChangesOnlyByHaltWakeReset
  refine ⟨fun s t h => ?_, fun i s t hi h => (effect_of_exec hi h).halted,
    fun s => ⟨s.wake_halted, s.assertReset_halted⟩, fun s t => step_halted_frame⟩
  rw [exec_halt] at h
  rw [← Host.Outcome.next.inj h, enterHalted_eq]

/-! ## The register file -/

/-- Settles O1, by evaluating the one state it speaks of. -/
theorem resetGivesPowerOnRegisters : Obligations.ResetGivesPowerOnRegisters := by
  unfold Obligations.ResetGivesPowerOnRegisters
  decide

/-- The high byte of a word as a number. -/
theorem hiByte_eq_ofNat (v : Word) : hiByte v = BitVec.ofNat 8 (v.toNat / 256) := by
  rw [← hiByte_toNat, BitVec.ofNat_toNat, BitVec.setWidth_eq]

/-- The low byte of a word as a number. -/
theorem loByte_eq_ofNat (v : Word) : loByte v = BitVec.ofNat 8 (v.toNat % 256) := by
  rw [← loByte_toNat, BitVec.ofNat_toNat, BitVec.setWidth_eq]

/-- Settles O17: a pair is `word16` of its registers, and writing it takes the word apart again. -/
theorem pairsAreTheirTwoRegisters : Obligations.PairsAreTheirTwoRegisters := by
  unfold Obligations.PairsAreTheirTwoRegisters
  intro s v
  rw [← hiByte_eq_ofNat, ← loByte_eq_ofNat]
  exact ⟨⟨word16_toNat .., word16_toNat .., word16_toNat ..⟩, ⟨rfl, rfl, rfl⟩,
    ⟨s.bc_setBc v, s.de_setDe v, s.hl_setHl v⟩⟩

/-- The low nibble of a word is that of its low byte. -/
theorem word16_and_lowNibble (hi lo : Byte) : word16 hi lo &&& 0x000F = word16 0 (lo &&& 0x0F) := by
  apply BitVec.eq_of_toNat_eq
  have hmask (n : Nat) : n &&& 15 = n % 16 := Nat.and_two_pow_sub_one_eq_mod n 4
  simp only [BitVec.ofNat_eq_ofNat, BitVec.toNat_and, word16_toNat, BitVec.toNat_ofNat, Nat.reducePow,
    Nat.reduceMod, hmask]
  omega

/-- Settles O18: the last clause holds because only the low byte of a word reaches its low nibble. -/
theorem afMasksTheLowNibble : Obligations.AfMasksTheLowNibble := by
  unfold Obligations.AfMasksTheLowNibble
  intro s v
  rw [← hiByte_eq_ofNat, ← loByte_eq_ofNat]
  refine ⟨word16_toNat .., rfl, fun hf => ?_⟩
  rw [State.af, word16_and_lowNibble, hf]
  rfl

/-- Settles O19: each clause is the bit-by-bit lemma about that write. -/
theorem flagWritesTouchOnlyTheirBits : Obligations.FlagWritesTouchOnlyTheirBits := by
  unfold Obligations.FlagWritesTouchOnlyTheirBits
  refine ⟨fun f => ⟨rfl, rfl, rfl, rfl⟩, fun f b k j _ hk _ => getLsbD_writeBit f (by omega) b j, fun w f => ?_⟩
  exact ⟨flagZ_apply w f, flagN_apply w f, flagH_apply w f, flagC_apply w f,
    fun j hj => getLsbD_apply_low w f (by omega)⟩

end Sys2Proof.Machine
end

section
/-! The step sequencer (40_step_sequencer.md). -/

namespace Sys2Proof.Machine

/-- The idle step as one record update: only `cycles` and the bus log are written (R147). -/
theorem State.idle_eq (s : State) : s.idle = { s with cycles := s.cycles + 1, bus := [] } := rfl

/-- Settles O4: a halted step is the idle step, and the idle step writes only `cycles` and the bus log. -/
theorem haltedStepOnlyCountsOneCycle : Obligations.HaltedStepOnlyCountsOneCycle := by
  unfold Obligations.HaltedStepOnlyCountsOneCycle
  intro s hs
  rw [step_halted hs, State.idle_eq]

end Sys2Proof.Machine
end

section
/-! The ALU helpers (41_alu_helpers.md): each result as a number, each flag from exact sums of bytes and nibbles. -/

namespace Sys2Proof.Machine

/-! ## Masks and zero tests as numbers -/

/-- The lowest `k` bits of a word as a number. -/
theorem toNat_and_lowMask {w : Nat} (v : BitVec w) {k : Nat} (hk : k ≤ w) :
    (v &&& BitVec.ofNat w (2 ^ k - 1)).toNat = v.toNat % 2 ^ k := by
  have hmask : 2 ^ k - 1 < 2 ^ w := by
    have := Nat.pow_le_pow_right (n := 2) (by decide) hk
    have := Nat.two_pow_pos k
    omega
  rw [BitVec.toNat_and, BitVec.toNat_ofNat, Nat.mod_eq_of_lt hmask, Nat.and_two_pow_sub_one_eq_mod]

/-- The spec's `v & 0xF` is the model's `lowNibble`. -/
theorem toNat_and_lowNibble (v : Byte) : (v &&& 0xF).toNat = lowNibble v :=
  toNat_and_lowMask v (k := 4) (by decide)

/-- A test of the low nibble of a byte is a test of the number `lowNibble`. -/
theorem and_lowNibble_eq_iff (v m : Byte) : v &&& 0xF = m ↔ lowNibble v = m.toNat := by
  rw [← toNat_and_lowNibble, BitVec.toNat_inj]

/-- `Z = bool(result == 0)` on bytes is the test of the result's number. -/
theorem beq_zero_eq_decide_toNat (r : Byte) : (r == 0) = decide (r.toNat = 0) :=
  decide_eq_decide.2 BitVec.toNat_inj.symm

/-! ## 8-bit add and subtract -/

/-- R162: the result is the exact three-way sum, modulo 256. -/
theorem adc8_result_toNat (a b : Byte) (c : Bool) :
    (adc8 a b c).result.toNat = (a.toNat + b.toNat + c.toNat) % 256 := BitVec.toNat_ofNat ..

/-- R162: H and C are the carries of the exact three-way sums. -/
theorem adc8_flags (a b : Byte) (c : Bool) :
    (adc8 a b c).flags =
      { z := some (decide ((a.toNat + b.toNat + c.toNat) % 256 = 0)), n := some false
        h := some (decide ((a &&& 0xF).toNat + (b &&& 0xF).toNat + c.toNat > 0xF))
        c := some (decide (a.toNat + b.toNat + c.toNat > 0xFF)) } := by
  rw [← adc8_result_toNat, ← beq_zero_eq_decide_toNat, toNat_and_lowNibble, toNat_and_lowNibble]
  rfl

/-- Addition is addition with Carry clear. -/
theorem add8_eq_adc8 (a b : Byte) : add8 a b = adc8 a b false := rfl

/-- Settles O28: `adc8` by its exact three-way sums, `add8` as `adc8` with Carry clear. -/
theorem addHelpersFollowTheirContract : Obligations.AddHelpersFollowTheirContract := by
  unfold Obligations.AddHelpersFollowTheirContract
  refine ⟨fun a b => ?_, fun a b c => ⟨adc8_result_toNat a b c, adc8_flags a b c⟩⟩
  rw [add8_eq_adc8]
  exact ⟨adc8_result_toNat a b false, adc8_flags a b false⟩

/-- R163: the difference, with 256 lent so that it is a natural number. -/
theorem sub8_result_toNat (a b : Byte) : (sub8 a b).result.toNat = (a.toNat + 256 - b.toNat) % 256 := by
  have hint : (sub8 a b).result.toNat = (((a.toNat : Int) - b.toNat) % 256).toNat := BitVec.toNat_ofInt ..
  omega

/-- R163: H and C are the borrows of the nibble and of the byte. -/
theorem sub8_flags (a b : Byte) :
    (sub8 a b).flags =
      { z := some (decide ((a.toNat + 256 - b.toNat) % 256 = 0)), n := some true
        h := some (decide ((a &&& 0xF).toNat < (b &&& 0xF).toNat)), c := some (decide (a.toNat < b.toNat)) } := by
  rw [← sub8_result_toNat, ← beq_zero_eq_decide_toNat, toNat_and_lowNibble, toNat_and_lowNibble]
  rfl

/-- A difference is 0 modulo 256 exactly when the bytes are equal. -/
theorem byte_sub_mod_eq_zero_iff (a b : Byte) : (a.toNat + 256 - b.toNat) % 256 = 0 ↔ a = b := by
  rw [← BitVec.toNat_inj]
  omega

/-- Settles O29: `cp8` is the flags of `sub8`, whose Z says that the operands are equal. -/
theorem subtractHelpersFollowTheirContract : Obligations.SubtractHelpersFollowTheirContract := by
  unfold Obligations.SubtractHelpersFollowTheirContract
  intro a b
  refine ⟨sub8_result_toNat a b, sub8_flags a b, rfl, ?_⟩
  rw [← decide_eq_decide.2 (byte_sub_mod_eq_zero_iff a b)]
  exact sub8_flags a b

/-! ## 8-bit logic -/

/-- Settles O31: the results are the bitwise operations, and the flags are written out in each helper. -/
theorem logicHelpersForceTheirFlags : Obligations.LogicHelpersForceTheirFlags := by
  unfold Obligations.LogicHelpersForceTheirFlags
  intro a b
  exact ⟨fun k _ => ⟨BitVec.getLsbD_and, BitVec.getLsbD_or, BitVec.getLsbD_xor⟩, rfl, rfl, rfl⟩

/-! ## 8-bit increment and decrement -/

/-- R169, the value. -/
theorem inc8_result_toNat (v : Byte) : (inc8 v).result.toNat = (v.toNat + 1) % 256 := BitVec.toNat_ofNat ..

/-- R170, the value: 255 is -1 modulo 256. -/
theorem dec8_result_toNat (v : Byte) : (dec8 v).result.toNat = (v.toNat + 255) % 256 := by
  have hint : (dec8 v).result.toNat = (((v.toNat : Int) - 1) % 256).toNat := BitVec.toNat_ofInt ..
  omega

/-- The increment leaves a zero low nibble exactly when it carries out of bit 3. -/
theorem lowNibble_inc8_eq_zero_iff (v : Byte) : lowNibble (inc8 v).result = 0 ↔ lowNibble v = 0xF := by
  rw [lowNibble, lowNibble, inc8_result_toNat]
  omega

/-- The decrement leaves a full low nibble exactly when it borrows into bit 3. -/
theorem lowNibble_dec8_eq_max_iff (v : Byte) : lowNibble (dec8 v).result = 0xF ↔ lowNibble v = 0 := by
  rw [lowNibble, lowNibble, dec8_result_toNat]
  omega

/-- R169, the flags, with H as the spec's mask of the new value. -/
theorem inc8_flags (v : Byte) :
    (inc8 v).flags =
      { z := some (decide ((inc8 v).result = 0)), n := some false
        h := some (decide ((inc8 v).result &&& 0xF = 0)), c := none } := by
  rw [decide_eq_decide.2 (and_lowNibble_eq_iff (inc8 v).result 0)]
  rfl

/-- R170, the flags, with H as the spec's mask of the new value. -/
theorem dec8_flags (v : Byte) :
    (dec8 v).flags =
      { z := some (decide ((dec8 v).result = 0)), n := some true
        h := some (decide ((dec8 v).result &&& 0xF = 0xF)), c := none } := by
  rw [decide_eq_decide.2 (and_lowNibble_eq_iff (dec8 v).result 0xF)]
  rfl

/-- Incrementing and then decrementing restores the byte, also across 0xFF. -/
@[simp] theorem dec8_inc8_result (v : Byte) : (dec8 (inc8 v).result).result = v := by
  apply BitVec.eq_of_toNat_eq
  rw [dec8_result_toNat, inc8_result_toNat]
  omega

/-- Settles O32: H tests the new low nibble, which tells the carry out of the old one. -/
theorem incDecHelpersLeaveCarry : Obligations.IncDecHelpersLeaveCarry := by
  unfold Obligations.IncDecHelpersLeaveCarry
  intro v
  refine ⟨inc8_result_toNat v, inc8_flags v, ?_, dec8_result_toNat v, dec8_flags v, ?_, dec8_inc8_result v,
    fun f => ?_⟩
  · rw [and_lowNibble_eq_iff, and_lowNibble_eq_iff]
    exact lowNibble_inc8_eq_zero_iff v
  · rw [and_lowNibble_eq_iff, and_lowNibble_eq_iff]
    exact lowNibble_dec8_eq_max_iff v
  · rw [flagC_apply, flagC_apply]
    rfl

/-! ## 16-bit additions -/

/-- R171, the value. -/
theorem add16_result_toNat (a b : Word) : (add16 a b).result.toNat = (a.toNat + b.toNat) % 65536 :=
  BitVec.toNat_ofNat ..

/-- R171, the flags: the carry out of bit 11 is read off the two 12-bit remainders. -/
theorem add16_flags (a b : Word) :
    (add16 a b).flags =
      { z := none, n := some false
        h := some (decide ((a &&& 0x0FFF).toNat + (b &&& 0x0FFF).toNat > 0x0FFF))
        c := some (decide (a.toNat + b.toNat > 0xFFFF)) } := by
  have hlow (v : Word) : (v &&& 0x0FFF).toNat = v.toNat % 0x1000 := toNat_and_lowMask v (k := 12) (by decide)
  rw [hlow, hlow]
  rfl

/-- The signed displacement modulo 65536, by the sign of its byte. -/
theorem signExtend16_toNat (d : Byte) :
    (signExtend16 d).toNat = if d.toNat < 0x80 then d.toNat else 0xFF00 + d.toNat := by
  have hwide : d.toNat % 2 ^ 16 = d.toNat := Nat.mod_eq_of_lt (by omega)
  rw [signExtend16, BitVec.toNat_signExtend, BitVec.toNat_setWidth, BitVec.msb_eq_decide, hwide]
  by_cases hd : d.toNat < 0x80
  · simp [hd]
  · simp [hd, Nat.le_of_not_lt hd, Nat.add_comm]

/-- R173, the value: it uses the signed displacement. -/
theorem addsp_result_toNat (sp : Word) (d : Byte) :
    (addsp sp d).result.toNat = (sp.toNat + if d.toNat < 0x80 then d.toNat else 0xFF00 + d.toNat) % 65536 := by
  rw [← signExtend16_toNat]
  exact BitVec.toNat_add ..

/-- R173, the flags: they use the unsigned byte. -/
theorem addsp_flags (sp : Word) (d : Byte) :
    (addsp sp d).flags =
      { z := some false, n := some false
        h := some (decide ((sp &&& 0x000F).toNat + (d &&& 0x0F).toNat > 0x0F))
        c := some (decide ((sp &&& 0x00FF).toNat + d.toNat > 0xFF)) } := by
  have hnibble : (sp &&& 0x000F).toNat = sp.toNat % 0x10 := toNat_and_lowMask sp (k := 4) (by decide)
  have hbyte : (sp &&& 0x00FF).toNat = sp.toNat % 0x100 := toNat_and_lowMask sp (k := 8) (by decide)
  rw [hnibble, hbyte, toNat_and_lowNibble]
  rfl

/-- Settles O33: results by the exact sums, the displacement by its sign; the flags by the masks as remainders. -/
theorem sixteenBitAddHelpersFollowTheirContract : Obligations.SixteenBitAddHelpersFollowTheirContract := by
  unfold Obligations.SixteenBitAddHelpersFollowTheirContract
  exact ⟨fun a b => ⟨add16_result_toNat a b, add16_flags a b⟩,
    fun sp d => ⟨addsp_result_toNat sp d, addsp_flags sp d⟩⟩

end Sys2Proof.Machine
end

section
/-! SUPPORT. Proofs of the statements about the decoder (30_encoding.md): the encoder is its inverse, and what it
rejects. -/

namespace Sys2Proof

/-! ## Decoding what the encoder writes -/

/-- Settles O14: the opcode byte selects the entry that makes the instruction; a 16-bit operand is put together again
from its two bytes, low byte first, and an 8-bit one is the byte itself. -/
theorem decodeOfEncode : Obligations.DecodeOfEncode := by
  unfold Obligations.DecodeOfEncode
  intro i rest
  cases i with
  | ldBcD16 v | ldDeD16 v | ldHlD16 v | ldSpD16 v => exact decode_opD16 rfl v rest
  | ldIndA16Sp v | jpNzA16 v | jpA16 v | callNzA16 v | jpZA16 v | callZA16 v | callA16 v | jpNcA16 v | callNcA16 v
    | jpCA16 v | callCA16 v | ldIndA16A v | ldAIndA16 v => exact decode_opA16 rfl v rest
  | _ => rfl

/-- What the encoder writes for an instruction is its code: the decoder reads it back. -/
theorem Spec.Encoded.of_encode {bytes : List Byte} {i : Instr} (h : encode i = bytes) : Spec.Encoded bytes i :=
  ⟨h, fun rest => h ▸ decodeOfEncode i rest⟩

/-! ## The assembly of an entry's operand -/

theorem Entry.length_le (e : Entry) : e.length ≤ 3 := by
  cases e <;> simp [Entry.length]

/-- With an operand byte missing, the assembly rejects, naming the opcode. -/
theorem Entry.assemble_missing {op : Byte} {e : Entry} {tail : List Byte} (h : tail.length + 1 < e.length) :
    e.assemble op tail = .rejected (.missingOperand op) := by
  match e, tail, h with
  | .opD8 _, [], _ | .opA8 _, [], _ | .opR8 _, [], _ => rfl
  | .opD16 _, [], _ | .opA16 _, [], _ => rfl
  | .opD16 _, [_], _ | .opA16 _, [_], _ => rfl

/-- With every operand byte there, the assembly gives an instruction and leaves what follows its operand. -/
theorem Entry.assemble_complete {op : Byte} {e : Entry} {tail : List Byte} (h : e.length ≤ tail.length + 1) :
    ∃ i, e.assemble op tail = .ok i ((op :: tail).drop e.length) := by
  match e, tail, h with
  | .op i, _, _ => exact ⟨i, rfl⟩
  | .opD8 mk, v :: _, _ | .opA8 mk, v :: _, _ | .opR8 mk, v :: _, _ => exact ⟨mk v, rfl⟩
  | .opD16 mk, lo :: hi :: _, _ | .opA16 mk, lo :: hi :: _, _ => exact ⟨mk (word16 hi lo), rfl⟩

/-- What an entry that agrees with the encoder assembles is what the encoder writes. -/
theorem Entry.Agrees.assemble_exact {op : Byte} {e : Entry} (ha : e.Agrees op) {tail : List Byte} {i : Instr}
    {rest : List Byte} (h : e.assemble op tail = .ok i rest) : op :: tail = encode i ++ rest := by
  obtain ⟨-, hmk⟩ := ha
  match e, tail, h with
  | .op _, _, h =>
    obtain ⟨rfl, rfl⟩ := Decoded.ok.inj h
    rw [hmk]; rfl
  | .opD8 _, _ :: _, h | .opA8 _, _ :: _, h | .opR8 _, _ :: _, h =>
    obtain ⟨rfl, rfl⟩ := Decoded.ok.inj h
    rw [hmk]; rfl
  | .opD16 _, _ :: _ :: _, h | .opA16 _, _ :: _ :: _, h =>
    obtain ⟨rfl, rfl⟩ := Decoded.ok.inj h
    rw [hmk, loByte_word16, hiByte_word16]; rfl

/-! ## The decoder -/

theorem lengthOfOpcode_le (op : Byte) : lengthOfOpcode op ≤ 3 := handler_length op ▸ (handler op).length_le

theorem decode_missing {op : Byte} {tail : List Byte} (h : tail.length + 1 < lengthOfOpcode op) :
    decode (op :: tail) = .rejected (.missingOperand op) :=
  Entry.assemble_missing (handler_length op ▸ h)

/-- Whatever decodes is the encoding of the instruction, followed by what is left. -/
theorem decode_exact {bytes : List Byte} {i : Instr} {rest : List Byte} (h : decode bytes = .ok i rest) :
    bytes = encode i ++ rest := by
  cases bytes with
  | nil => exact Decoded.noConfusion h
  | cons op tail => exact (handler_agrees op).assemble_exact h

theorem decode_complete {op : Byte} {tail : List Byte} (h : lengthOfOpcode op ≤ tail.length + 1) :
    ∃ i, decode (op :: tail) = .ok i ((op :: tail).drop (lengthOfOpcode op)) ∧
      (encode i).length = lengthOfOpcode op := by
  have hex : ∃ i, decode (op :: tail) = .ok i ((op :: tail).drop (handler op).length) :=
    Entry.assemble_complete (handler_length op ▸ h)
  obtain ⟨i, hi⟩ := handler_length op ▸ hex
  have hlen := congrArg List.length (decode_exact hi)
  rw [List.length_append, List.length_drop, List.length_cons] at hlen
  exact ⟨i, hi, by omega⟩

/-- Settles O15: the entry of the opcode byte has the length of R110, and its assembly rejects exactly the strings
that are too short for it. -/
theorem decoderIsTotalAndExact : Obligations.DecoderIsTotalAndExact := by
  unfold Obligations.DecoderIsTotalAndExact
  exact ⟨rfl, fun _ _ => decode_missing, fun _ _ => decode_complete, fun _ _ _ => decode_exact⟩

/-- Settles O16, by running the decoder on the words. -/
theorem specWordsDecode : Obligations.SpecWordsDecode := by
  unfold Obligations.SpecWordsDecode
  decide

/-- The encoder writes exactly the bytes of one instruction (R100, R110). -/
theorem wellFormedCode_encode (i : Instr) : wellFormedCode (encode i) = true := by
  obtain ⟨op, rest, h, hlen⟩ := encode_length i
  simp [h, wellFormedCode, hasOpcode, hasAllOperands, hasNoExcess, hlen]

theorem encode_length_le (i : Instr) : (encode i).length ≤ 3 := by
  obtain ⟨op, rest, h, hlen⟩ := encode_length i
  rw [h, List.length_cons, hlen]
  exact lengthOfOpcode_le op

end Sys2Proof
end

section
/-! SUPPORT. Proofs of the statements about the step and the environment (40_step_sequencer.md). -/

namespace Sys2Proof.Machine

open Sys2Proof.Spec

/-! ## The fetch -/

/-- The three bytes at PC hold a whole instruction, whatever they are. -/
theorem decode_bytesAt_three (s : State) : ∃ i rest, decode (bytesAt s s.pc 3) = .ok i rest := by
  obtain ⟨i, hi, -⟩ := decode_complete (op := s.readByte s.pc)
    (tail := [s.readByte (s.pc + 1), s.readByte (s.pc + 1 + 1)]) (lengthOfOpcode_le _)
  exact ⟨i, _, hi⟩

/-- A running step is the meaning of the instruction at PC, in the state after the fetch of its bytes. -/
theorem step_eq_exec_fetched {s : State} {i : Instr} {rest : List Byte} (hs : s.halted = false)
    (hd : decode (bytesAt s s.pc 3) = .ok i rest) : step s = exec i (fetched s (encode i).length) := by
  have hf : s.beginStep.fetchInstr = (i, fetched s (encode i).length) := fetchOperand_eq (handler_agrees _) hd
  rw [step_running hs, hf]

/-- What a step can do, in the spec's terms: idle, or run the instruction at PC after the fetch of its bytes. -/
theorem step_cases_fetched {s t : State} (h : step s = .next t) :
    (s.halted = true ∧ t = s.idle) ∨
    (s.halted = false ∧ ∃ i, exec i (fetched s (encode i).length) = .next t) := by
  obtain hidle | ⟨hs, -⟩ := step_cases h
  · exact .inl hidle
  · obtain ⟨i, rest, hd⟩ := decode_bytesAt_three s
    exact .inr ⟨hs, i, step_eq_exec_fetched hs hd ▸ h⟩

/-- Settles O3: the table's entry for the byte at PC agrees with the encoder, so the fetch reads exactly the bytes of
the instruction they decode to. -/
theorem stepRunsDecodedInstruction : Obligations.StepRunsDecodedInstruction := by
  unfold Obligations.StepRunsDecodedInstruction
  exact ⟨decode_bytesAt_three, fun s i rest hs hd => ⟨wellFormedCode_encode i, step_eq_exec_fetched hs hd⟩⟩

/-! ## Completion -/

theorem exec_completes (i : Instr) (s : State) : ∃ t, exec i s = .next t := by
  by_cases hi : i = .halt
  · exact ⟨_, hi ▸ exec_halt s⟩
  · obtain ⟨t, ht, -⟩ := exec_effect hi s
    exact ⟨t, ht⟩

theorem step_completes (s : State) : ∃ t, step s = .next t := by
  cases hs : s.halted
  · rw [step_running hs]
    exact exec_completes _ _
  · exact ⟨_, step_halted hs⟩

/-- Settles O5: an instruction completes by its form, and a step is the idle step or an instruction. -/
theorem everyStepCompletes : Obligations.EveryStepCompletes := by
  unfold Obligations.EveryStepCompletes
  exact ⟨nofun, exec_completes, step_completes⟩

/-! ## The environment and runs -/

/-- `Wake()` writes `halted` only (R153), also when it finds it false. -/
theorem State.wake_eq (s : State) : s.wake = { s with halted := false } := by
  apply State.ext_fields
  simp

/-- Settles O2: the reset values are read off `State.reset`, and each event is its transition. -/
theorem environmentActsOnlyAsDecided : Obligations.EnvironmentActsOnlyAsDecided := by
  unfold Obligations.EnvironmentActsOnlyAsDecided
  exact ⟨rfl, rfl, rfl, rfl, fun s => ⟨rfl, rfl, congrArg Host.Outcome.next s.wake_eq⟩⟩

theorem after_completes (s : State) (ev : Event) : ∃ t, s.after ev = .next t := by
  cases ev with
  | step => exact step_completes s
  | wake => exact ⟨_, rfl⟩
  | reset => exact ⟨_, rfl⟩

/-- A run goes on from the state its first event reaches. -/
theorem run_cons {s t : State} {ev : Event} (h : s.after ev = .next t) (evs : List Event) :
    s.run (ev :: evs) = t.run evs := by
  rw [State.run, h]

theorem run_completes (evs : List Event) (s : State) : ∃ t, s.run evs = .next t := by
  induction evs generalizing s with
  | nil => exact ⟨s, rfl⟩
  | cons ev evs ih =>
    obtain ⟨u, hu⟩ := after_completes s ev
    rw [run_cons hu]
    exact ih u

/-- What every event keeps, every run keeps. -/
theorem run_keeps {P : State → Prop} (hev : ∀ {s t : State} (ev : Event), P s → s.after ev = .next t → P t)
    (evs : List Event) {s t : State} (hs : P s) (h : s.run evs = .next t) : P t := by
  induction evs generalizing s with
  | nil => exact Host.Outcome.next.inj h ▸ hs
  | cons ev evs ih =>
    obtain ⟨u, hu⟩ := after_completes s ev
    rw [run_cons hu] at h
    exact ih (hev ev hs hu) h

/-- `n` steps from a halted state are `n` idle steps (R147). -/
theorem run_steps_halted (n : Nat) {s : State} (hs : s.halted = true) :
    s.run (List.replicate n .step) =
      .next { s with cycles := s.cycles + n, bus := if n = 0 then s.bus else [] } := by
  induction n generalizing s with
  | zero => rfl
  | succ n ih =>
    rw [List.replicate_succ, run_cons (ev := .step) (step_halted hs), ih (by rwa [State.idle_halted]), State.idle_eq]
    simp only [Nat.add_assoc, Nat.add_comm 1 n, ite_self, Nat.succ_ne_zero, if_false]

/-- Settles O6: `HALT` by its meaning, the steps after it by induction on their number. -/
theorem haltStopsUntilWoken : Obligations.HaltStopsUntilWoken := by
  unfold Obligations.HaltStopsUntilWoken
  exact ⟨.of_encode rfl, fun s => exec_halt s, fun n s => run_steps_halted n⟩

end Sys2Proof.Machine
end

section
/-! SUPPORT. What every write leaves in memory and in the registers, in the terms of `Safety/Terms.lean`. -/

namespace Sys2Proof.Machine

open Sys2Proof.Spec

/-! ## Memory after a write -/

theorem written_writeByte (m : Memory) (x : Word) (v : Byte) : Written m (m.writeByte x v) x v := by
  intro y
  rw [Memory.readByte_writeByte, storesAt_eq_storable]

/-- Two writes at different addresses: the order does not matter to what is read afterwards. -/
theorem writtenTwice_writeByte (m : Memory) {x y : Word} (h : x ≠ y) (v w : Byte) :
    WrittenTwice m ((m.writeByte x v).writeByte y w) x v y w := by
  intro z
  rw [written_writeByte _ y w z, written_writeByte m x v z]
  by_cases hz : z = y ∧ storable y = true
  · rw [if_pos hz, if_neg fun hx => h (hx.1.symm.trans hz.1), if_pos hz]
  · rw [if_neg hz, if_neg hz]

/-- A write changes at most its address, and that only where the write is stored. -/
theorem frame_of_written {m m' : Memory} {x : Word} {v : Byte} (h : Written m m' x v) (y : Word) :
    (y ∈ [x] ∧ storable y = true) ∨ m'.readByte y = m.readByte y := by
  by_cases hy : y = x ∧ storable x = true
  · exact .inl ⟨List.mem_singleton.2 hy.1, hy.1 ▸ hy.2⟩
  · exact .inr ((h y).trans (if_neg hy))

theorem frame_of_writtenTwice {m m' : Memory} {x₁ x₂ : Word} {v₁ v₂ : Byte}
    (h : WrittenTwice m m' x₁ v₁ x₂ v₂) (y : Word) :
    (y ∈ [x₁, x₂] ∧ storable y = true) ∨ m'.readByte y = m.readByte y := by
  by_cases h₁ : y = x₁ ∧ storable x₁ = true
  · exact .inl ⟨by simp [h₁.1], h₁.1 ▸ h₁.2⟩
  by_cases h₂ : y = x₂ ∧ storable x₂ = true
  · exact .inl ⟨by simp [h₂.1], h₂.1 ▸ h₂.2⟩
  · exact .inr ((h y).trans ((if_neg h₁).trans (if_neg h₂)))

/-- The two slots of a push differ. -/
theorem stackSlots_ne (sp : Word) : sp - 1 ≠ sp - 2 := by bv_omega

theorem word_ne_succ (x : Word) : x ≠ x + 1 := by bv_omega

theorem push16_written (s : State) (v : Word) :
    WrittenTwice s.mem (s.push16 v).mem (s.sp - 1) (hiByte v) (s.sp - 2) (loByte v) := by
  rw [push16_eq]
  exact writtenTwice_writeByte s.mem (stackSlots_ne s.sp) _ _

/-- Settles O26: a write is `Written`, and the rest of it, and of a read, is one record update. -/
theorem busWriteStoresByRegion : Obligations.BusWriteStoresByRegion := by
  unfold Obligations.BusWriteStoresByRegion
  exact fun s x v => ⟨written_writeByte s.mem x v, rfl, rfl⟩

/-- Settles O25: working RAM is `storable`, so the address is read back as `Written` says. -/
theorem workingRamKeepsTheLastByteWritten : Obligations.WorkingRamKeepsTheLastByteWritten := by
  unfold Obligations.WorkingRamKeepsTheLastByteWritten
  intro x hlo hhi
  have hst : storable x = true := by
    simp only [storable, Bool.or_eq_true, Bool.and_eq_true, decide_eq_true_eq]
    omega
  refine ⟨fun s v => ?_, fun s y v hy => ?_, ?_⟩
  · exact (written_writeByte s.mem x v x).trans (if_pos ⟨rfl, hst⟩)
  · exact (written_writeByte s.mem y v x).trans (if_neg fun h => hy h.1.symm)
  · exact if_pos (backedAt_of_storesAt (storesAt_eq_storable x ▸ hst))

/-- Settles O27: the map is a chain of comparisons, and an unbacked address has no byte and stores none. -/
theorem regionMapAndSentinel : Obligations.RegionMapAndSentinel := by
  unfold Obligations.RegionMapAndSentinel
  refine ⟨fun x => ?_, fun m x v hx => ?_, fun x v => ?_⟩
  · have := x.isLt
    simp only [region]
    split_ifs <;> simp <;> omega
  · have hb : backedAt x = false := by rw [backedAt_eq_not_unbacked, hx]; rfl
    have hs : ¬ storesAt x = true := fun h => by simp [backedAt_of_storesAt h] at hb
    refine ⟨?_, if_neg hs⟩
    rw [Memory.readByte, hb]
    rfl
  · simp only [BusAccess.reported, BusAccess.addr, backedAt_eq_not_unbacked, Bool.not_not, and_self]

/-! ## The stack -/

/-- `Pop16()` as one record update (46_stack_and_restart.md R315). -/
theorem dropTop_eq (s : State) :
    s.dropTop =
      { s with
        sp := s.sp + 2
        bus := s.bus ++ [.read s.sp (s.readByte s.sp), .read (s.sp + 1) (s.readByte (s.sp + 1))] } := by
  apply State.ext_fields
  simp

theorem popPc_eq (s : State) :
    popPc s =
      { s with
        sp := s.sp + 2, pc := s.top16
        bus := s.bus ++ [.read s.sp (s.readByte s.sp), .read (s.sp + 1) (s.readByte (s.sp + 1))] } := by
  rw [popPc, dropTop_eq]
  rfl

/-! ## Registers -/

theorem State.getReg_setReg (s : State) (r q : Reg8) (v : Byte) :
    (s.setReg r v).getReg q = if q = r then v else s.getReg q := by
  cases r <;> cases q <;> rfl

theorem State.getPair_setPair (s : State) (p q : Pair) (v : Word) :
    (s.setPair p v).getPair q = if q = p then v else s.getPair q := by
  cases p <;> cases q
  case bc.bc | de.de | hl.hl | sp.sp => exact State.getPair_setPair_self ..
  -- a pair has no register of another
  all_goals rfl

/-- Settles O21: a register, or a pair, is read back, and the others are other fields of the record. -/
theorem registerFileReadsBack : Obligations.RegisterFileReadsBack := by
  unfold Obligations.RegisterFileReadsBack
  exact ⟨State.getReg_setReg, fun s r v => by cases r <;> rfl, State.getPair_setPair,
    fun s p v => by cases p <;> rfl, fun s v => ⟨rfl, rfl, rfl, rfl, rfl, rfl, rfl, rfl⟩⟩

/-- The 8-bit registers of a pair; SP has none. -/
def pairRegs : Pair → List Reg8
  | .bc => [.b, .c]
  | .de => [.d, .e]
  | .hl => [.h, .l]
  | .sp => []

/-- The 8-bit registers other than F of a stack pair. -/
def stackPairRegs : StackPair → List Reg8
  | .bc => [.b, .c]
  | .de => [.d, .e]
  | .hl => [.h, .l]
  | .af => [.a]

theorem setReg_frame (s : State) (r : Reg8) (v : Byte) (q : Reg8) :
    q ∈ [r] ∨ (s.setReg r v).getReg q = s.getReg q := by
  by_cases h : q = r
  · exact .inl (List.mem_singleton.2 h)
  · exact .inr ((s.getReg_setReg r q v).trans (if_neg h))

theorem setBc_frame (s : State) (v : Word) (q : Reg8) : q ∈ [.b, .c] ∨ (s.setBc v).getReg q = s.getReg q := by
  cases q <;> simp

theorem setDe_frame (s : State) (v : Word) (q : Reg8) : q ∈ [.d, .e] ∨ (s.setDe v).getReg q = s.getReg q := by
  cases q <;> simp

theorem setHl_frame (s : State) (v : Word) (q : Reg8) : q ∈ [.h, .l] ∨ (s.setHl v).getReg q = s.getReg q := by
  cases q <;> simp

theorem setPair_frame (s : State) (p : Pair) (v : Word) (q : Reg8) :
    q ∈ pairRegs p ∨ (s.setPair p v).getReg q = s.getReg q := by
  cases p with
  | bc => exact setBc_frame s v q
  | de => exact setDe_frame s v q
  | hl => exact setHl_frame s v q
  | sp => exact .inr rfl

theorem setPair_sp_frame (s : State) (p : Pair) (v : Word) : decide (p = .sp) = true ∨ (s.setPair p v).sp = s.sp := by
  cases p with
  | sp => exact .inl rfl
  | bc | de | hl => exact .inr rfl

theorem setStackPair_frame (s : State) (p : StackPair) (v : Word) (q : Reg8) :
    q ∈ stackPairRegs p ∨ (s.setStackPair p v).getReg q = s.getReg q := by
  cases p with
  | bc => exact setBc_frame s v q
  | de => exact setDe_frame s v q
  | hl => exact setHl_frame s v q
  | af => exact setReg_frame s .a (hiByte v) q

end Sys2Proof.Machine
end

section
/-! SUPPORT. The tables of `Safety/Tables.lean` against the meanings. A table row says what an instruction may do to a
state; each shared form of the meanings meets one row; and the row of every instruction is that of its form. The
statements about all instructions are read off this once. -/

namespace Sys2Proof.Machine

open Sys2Proof.Spec

/-! ## Marks -/

/-- The marks of Z, N, H, C, in this order. -/
abbrev FlagMarks := FlagMark × FlagMark × FlagMark × FlagMark

/-- Each flag of `f` before and of `g` after agrees with its mark. -/
def MarksAllow (m : FlagMarks) (f g : Byte) : Prop :=
  m.1.Allows (flagZ f) (flagZ g) ∧ m.2.1.Allows (flagN f) (flagN g) ∧
  m.2.2.1.Allows (flagH f) (flagH g) ∧ m.2.2.2.Allows (flagC f) (flagC g)

/-- A flag write does to each flag what its mark says: `none` keeps it, a constant is the one marked. -/
def FlagWrite.Meets (w : FlagWrite) (m : FlagMarks) : Prop :=
  ∀ f, m.1.Allows (flagZ f) (w.z.getD (flagZ f)) ∧ m.2.1.Allows (flagN f) (w.n.getD (flagN f)) ∧
    m.2.2.1.Allows (flagH f) (w.h.getD (flagH f)) ∧ m.2.2.2.Allows (flagC f) (w.c.getD (flagC f))

theorem marksAllow_apply {w : FlagWrite} {m : FlagMarks} (h : w.Meets m) (f : Byte) :
    MarksAllow m f (w.apply f) := by
  unfold MarksAllow
  rw [flagZ_apply, flagN_apply, flagH_apply, flagC_apply]
  exact h f

/-- The marks of an accumulator operation (10_state.md R28). -/
def aluMarks : AluOp → FlagMarks
  | .add | .adc => (.computed, .zero, .computed, .computed)
  | .sub | .sbc | .cp => (.computed, .one, .computed, .computed)
  | .and => (.computed, .zero, .one, .zero)
  | .xor | .or => (.computed, .zero, .zero, .zero)

theorem aluRun_meets (op : AluOp) (a v : Byte) (c : Bool) : (AluOp.run op a v c).flags.Meets (aluMarks op) := by
  cases op with
  | add | adc | sub | sbc | cp => exact fun _ => ⟨trivial, rfl, trivial, trivial⟩
  | and | xor | or => exact fun _ => ⟨trivial, rfl, rfl, rfl⟩

theorem inc8_meets (v : Byte) : (inc8 v).flags.Meets (.computed, .zero, .computed, .keep) :=
  fun _ => ⟨trivial, rfl, trivial, rfl⟩

theorem dec8_meets (v : Byte) : (dec8 v).flags.Meets (.computed, .one, .computed, .keep) :=
  fun _ => ⟨trivial, rfl, trivial, rfl⟩

theorem rotateFlags_meets (out : Bool) : (rotateFlags out).Meets (.zero, .zero, .zero, .computed) :=
  fun _ => ⟨rfl, rfl, rfl, trivial⟩

theorem setCarry_meets :
    FlagWrite.Meets { z := none, n := some false, h := some false, c := some true } (.keep, .zero, .zero, .one) :=
  fun _ => ⟨rfl, rfl, rfl, rfl⟩

theorem complementCarry_meets (c : Bool) :
    FlagWrite.Meets { z := none, n := some false, h := some false, c := some c } (.keep, .zero, .zero, .computed) :=
  fun _ => ⟨rfl, rfl, rfl, trivial⟩

theorem complementA_meets :
    FlagWrite.Meets { z := none, n := some true, h := some true, c := none } (.keep, .one, .one, .keep) :=
  fun _ => ⟨rfl, rfl, rfl, rfl⟩

theorem daa_meets (a : Byte) (n h c : Bool) : (daa a n h c).flags.Meets (.computed, .keep, .zero, .computed) :=
  fun _ => ⟨trivial, rfl, rfl, trivial⟩

theorem add16_meets (a b : Word) : (add16 a b).flags.Meets (.keep, .zero, .computed, .computed) :=
  fun _ => ⟨rfl, rfl, trivial, trivial⟩

theorem addsp_meets (sp : Word) (d : Byte) : (addsp sp d).flags.Meets (.zero, .zero, .computed, .computed) :=
  fun _ => ⟨rfl, rfl, trivial, trivial⟩

/-! ## Rows -/

/-- One row of the tables: the marks of the flags and whether bits 3 to 0 of F are cleared, the registers it may write,
where it transfers control to, the addresses it stores to, how many bytes encode it, and its bus accesses and cost. -/
structure TableRow where
  marks : FlagMarks := (.keep, .keep, .keep, .keep)
  clearsLow : Bool := false
  regs : List Reg8 := []
  writesSp : Bool := false
  target : Option Word := none
  stores : List Word := []
  bytes : Nat
  accesses : Nat
  cost : Nat

/-- The row of an instruction in a state, from the spec's tables. -/
def rowOf (i : Instr) (s : State) : TableRow where
  marks := flagMarks i
  clearsLow := decide (i = .popAf)
  regs := regsWritten i
  writesSp := Spec.writesSp i
  target := controlTarget i s
  stores := storeAddresses i s
  bytes := (encode i).length
  accesses := busAccessesOf i s
  cost := costOf i s

/-- From `s`, whose fetch has read the bytes of the row, to `t` nothing has changed but what the row says. A clause that
is left out when a row is proved is one where nothing changes, or where the record update shows the change. -/
structure WithinRow (s t : State) (row : TableRow) : Prop where
  flags : MarksAllow row.marks s.f t.f := by exact ⟨rfl, rfl, rfl, rfl⟩
  lowNibble : t.f &&& 0x0F = if row.clearsLow then 0 else s.f &&& 0x0F := by rfl
  regs : ∀ r, r ∈ row.regs ∨ t.getReg r = s.getReg r := by exact fun _ => .inr rfl
  sp : row.writesSp = true ∨ t.sp = s.sp := by exact .inr rfl
  pc : t.pc = row.target.getD s.pc := by rfl
  opcode : t.opcode = s.opcode := by rfl
  mem : ∀ x, (x ∈ row.stores ∧ storable x = true) ∨ t.readByte x = s.readByte x := by exact fun _ => .inr rfl
  wf : Memory.wf s.mem → Memory.wf t.mem := by exact id
  bus : ∃ log, t.bus = s.bus ++ log ∧ row.accesses = row.bytes + log.length := by
    exact ⟨[], (List.append_nil _).symm, rfl⟩
  cycles : t.cycles = s.cycles + row.cost := by rfl
  accesses_le_cost : row.accesses ≤ row.cost := by exact Nat.le_of_ble_eq_true rfl

/-! ### Loads (42_loads.md) -/

theorem loadRegReg_row (dst src : Reg8) (s : State) :
    WithinRow s (loadRegReg dst src s) { regs := [dst], bytes := 1, accesses := 1, cost := 1 } := by
  have h := setReg_frame s dst (s.getReg src)
  cases dst <;> exact { regs := h }

theorem loadRegFrom_row (dst : Reg8) (x : Word) {bytes cost : Nat} (hc : bytes + 1 ≤ cost) (s : State) :
    WithinRow s (loadRegFrom dst x cost s)
      { regs := [dst], bytes := bytes, accesses := bytes + 1, cost := cost } := by
  have h := setReg_frame s dst (s.readByte x)
  cases dst <;> exact { regs := h, bus := ⟨[_], rfl, rfl⟩, accesses_le_cost := hc }

theorem loadRegImm_row (dst : Reg8) (v : Byte) (s : State) :
    WithinRow s (loadRegImm dst v s) { regs := [dst], bytes := 2, accesses := 2, cost := 2 } := by
  have h := setReg_frame s dst v
  cases dst <;> exact { regs := h }

theorem storeByte_row (x : Word) (v : Byte) {bytes cost : Nat} (hc : bytes + 1 ≤ cost) (s : State) :
    WithinRow s (storeByte x v cost s) { stores := [x], bytes := bytes, accesses := bytes + 1, cost := cost } where
  mem := frame_of_written (written_writeByte s.mem x v)
  wf h := Memory.wf_writeByte h x v
  bus := ⟨[_], rfl, rfl⟩
  accesses_le_cost := hc

theorem loadAPost_row (v : Word) (s : State) :
    WithinRow s (loadAPost v s) { regs := [.a, .h, .l], bytes := 1, accesses := 2, cost := 2 } where
  regs r := by cases r <;> simp [loadAPost_eq]
  bus := ⟨[_], rfl, rfl⟩

theorem storeAPost_row (v : Word) (s : State) :
    WithinRow s (storeAPost v s) { regs := [.h, .l], stores := [s.hl], bytes := 1, accesses := 2, cost := 2 } where
  regs := setHl_frame s v
  mem := frame_of_written (written_writeByte s.mem s.hl s.a)
  wf h := Memory.wf_writeByte h s.hl s.a
  bus := ⟨[_], rfl, rfl⟩

theorem loadPairImm_row (p : Pair) (v : Word) (s : State) :
    WithinRow s (loadPairImm p v s)
      { regs := pairRegs p, writesSp := decide (p = .sp), bytes := 3, accesses := 3, cost := 3 } := by
  have hr := setPair_frame s p v
  have hsp := setPair_sp_frame s p v
  cases p <;> exact { regs := hr, sp := hsp }

theorem loadSpFromHl_row (s : State) :
    WithinRow s (loadSpFromHl s) { writesSp := true, bytes := 1, accesses := 1, cost := 2 } where
  sp := .inl rfl

theorem storeSp_row (x : Word) (s : State) :
    WithinRow s (storeSp x s) { stores := [x, x + 1], bytes := 3, accesses := 5, cost := 5 } where
  mem := frame_of_writtenTwice (writtenTwice_writeByte s.mem (word_ne_succ x) (loByte s.sp) (hiByte s.sp))
  wf h := Memory.wf_writeByte (Memory.wf_writeByte h _ _) _ _
  bus := ⟨_, List.append_assoc .., rfl⟩

/-! ### Increment, decrement, arithmetic (43_incdec.md, 44_arith_logic.md) -/

theorem stepReg_row {op : Byte → Alu8} {m : FlagMarks} (hm : ∀ v, (op v).flags.Meets m) (r : Reg8) (s : State) :
    WithinRow s (stepReg op r s) { marks := m, regs := [r], bytes := 1, accesses := 1, cost := 1 } := by
  have hf := marksAllow_apply (hm (s.getReg r)) s.f
  have hl := apply_and_low (op (s.getReg r)).flags s.f
  have hr := setReg_frame s r (op (s.getReg r)).result
  cases r <;> exact { flags := hf, lowNibble := hl, regs := hr }

theorem stepIndHl_row {op : Byte → Alu8} {m : FlagMarks} (hm : ∀ v, (op v).flags.Meets m) (s : State) :
    WithinRow s (stepIndHl op s) { marks := m, stores := [s.hl], bytes := 1, accesses := 3, cost := 3 } where
  flags := marksAllow_apply (hm _) s.f
  lowNibble := apply_and_low ..
  mem := frame_of_written (written_writeByte s.mem s.hl _)
  wf h := Memory.wf_writeByte h s.hl _
  bus := ⟨_, List.append_assoc .., rfl⟩

theorem stepPair_row (op : Word → Word) (p : Pair) (s : State) :
    WithinRow s (stepPair op p s)
      { regs := pairRegs p, writesSp := decide (p = .sp), bytes := 1, accesses := 1, cost := 2 } := by
  have hr := setPair_frame s p (op (s.getPair p))
  have hsp := setPair_sp_frame s p (op (s.getPair p))
  cases p <;> exact { regs := hr, sp := hsp }

/-- The registers an accumulator operation writes: `CP` keeps A (41_alu_helpers.md R165). -/
def aluRegs : AluOp → List Reg8
  | .cp => []
  | .add | .adc | .sub | .sbc | .and | .xor | .or => [.a]

theorem accumulate_frame (s : State) (op : AluOp) (v : Byte) (r : Reg8) :
    r ∈ aluRegs op ∨ (s.accumulate op v).getReg r = s.getReg r := by
  cases op with
  | cp => cases r <;> exact .inr rfl
  | add | adc | sub | sbc | and | xor | or => exact setReg_frame s .a _ r

theorem aluReg_row (op : AluOp) (r : Reg8) (s : State) :
    WithinRow s (aluReg op r s)
      { marks := aluMarks op, regs := aluRegs op, bytes := 1, accesses := 1, cost := 1 } where
  flags := marksAllow_apply (aluRun_meets _ _ _ _) s.f
  lowNibble := apply_and_low ..
  regs := accumulate_frame s op _

theorem aluIndHl_row (op : AluOp) (s : State) :
    WithinRow s (aluIndHl op s)
      { marks := aluMarks op, regs := aluRegs op, bytes := 1, accesses := 2, cost := 2 } where
  flags := marksAllow_apply (aluRun_meets _ _ _ _) s.f
  lowNibble := apply_and_low ..
  regs := accumulate_frame s op _
  bus := ⟨[_], rfl, rfl⟩

theorem aluImm_row (op : AluOp) (v : Byte) (s : State) :
    WithinRow s (aluImm op v s)
      { marks := aluMarks op, regs := aluRegs op, bytes := 2, accesses := 2, cost := 2 } where
  flags := marksAllow_apply (aluRun_meets _ _ _ _) s.f
  lowNibble := apply_and_low ..
  regs := accumulate_frame s op _

theorem addHl_row (p : Pair) (s : State) :
    WithinRow s (addHl p s)
      { marks := (.keep, .zero, .computed, .computed), regs := [.h, .l], bytes := 1, accesses := 1, cost := 2 } where
  flags := marksAllow_apply (add16_meets _ _) s.f
  lowNibble := apply_and_low ..
  regs := setHl_frame s _

/-! ### Jumps, calls, returns, the stack (45_jumps_calls_returns.md, 46_stack_and_restart.md) -/

theorem charge_row {bytes cost : Nat} (hc : bytes ≤ cost) (s : State) :
    WithinRow s (s.charge cost) { bytes := bytes, accesses := bytes, cost := cost } where
  accesses_le_cost := hc

theorem jump_row (t : Word) {bytes cost : Nat} (hc : bytes ≤ cost) (s : State) :
    WithinRow s ((s.jump t).charge cost) { target := some t, bytes := bytes, accesses := bytes, cost := cost } where
  accesses_le_cost := hc

/-- A push, with a transfer of control or without. -/
theorem push_row (v : Word) (target : Option Word) {bytes cost : Nat} (hc : bytes + 2 ≤ cost) (s : State) :
    WithinRow s (((s.push16 v).jump (target.getD s.pc)).charge cost)
      { writesSp := true, target := target, stores := [s.sp - 1, s.sp - 2], bytes := bytes, accesses := bytes + 2
        cost := cost } where
  sp := .inl rfl
  mem := frame_of_writtenTwice (push16_written s v)
  wf h := State.wf_push16 h v
  bus := ⟨_, List.append_assoc .., rfl⟩
  accesses_le_cost := hc

/-- A return: the word on the stack becomes PC. -/
theorem popPc_row {bytes cost : Nat} (hc : bytes + 2 ≤ cost) (s : State) :
    WithinRow s ((popPc s).charge cost)
      { writesSp := true, target := some s.top16, bytes := bytes, accesses := bytes + 2, cost := cost } := by
  rw [popPc_eq]
  exact { sp := .inl rfl, bus := ⟨_, rfl, rfl⟩, accesses_le_cost := hc }

theorem jumpRelativeIf_row (cc : Cond) (d : Byte) (s : State) :
    WithinRow s (jumpRelativeIf cc d s)
      { target := if s.condHolds cc then some (s.pc + signExtend16 d) else none, bytes := 2, accesses := 2
        cost := if s.condHolds cc then 3 else 2 } := by
  unfold jumpRelativeIf
  split
  · exact jump_row _ (by decide) s
  · exact charge_row (by decide) s

theorem jumpAbsoluteIf_row (cc : Cond) (t : Word) (s : State) :
    WithinRow s (jumpAbsoluteIf cc t s)
      { target := if s.condHolds cc then some t else none, bytes := 3, accesses := 3
        cost := if s.condHolds cc then 4 else 3 } := by
  unfold jumpAbsoluteIf
  split
  · exact jump_row _ (by decide) s
  · exact charge_row (by decide) s

/-- `writesSp` says of a conditional instruction that it may write SP. -/
theorem WithinRow.mayWriteSp {s t : State} {row : TableRow} (h : WithinRow s t row) :
    WithinRow s t { row with writesSp := true } :=
  { h with sp := .inl rfl }

theorem callAbsoluteIf_row (cc : Cond) (t : Word) (s : State) :
    WithinRow s (callAbsoluteIf cc t s)
      { writesSp := true, target := if s.condHolds cc then some t else none
        stores := if s.condHolds cc then [s.sp - 1, s.sp - 2] else [], bytes := 3
        accesses := if s.condHolds cc then 5 else 3, cost := if s.condHolds cc then 6 else 3 } := by
  unfold callAbsoluteIf
  split
  · exact push_row s.pc (some t) (by decide) s
  · exact (charge_row (by decide) s).mayWriteSp

theorem returnIf_row (cc : Cond) (s : State) :
    WithinRow s (returnIf cc s)
      { writesSp := true, target := if s.condHolds cc then some s.top16 else none, bytes := 1
        accesses := if s.condHolds cc then 3 else 1, cost := if s.condHolds cc then 5 else 2 } := by
  unfold returnIf
  split
  · exact popPc_row (by decide) s
  · exact (charge_row (by decide) s).mayWriteSp

theorem popPair_row {p : StackPair} (hp : p ≠ .af) (s : State) :
    WithinRow s (popPair p s)
      { regs := stackPairRegs p, writesSp := true, bytes := 1, accesses := 3, cost := 3 } := by
  have hr := setStackPair_frame s p s.top16
  rw [popPair_eq, dropTop_eq]
  cases p with
  | bc | de | hl => exact { regs := hr, sp := .inl rfl, bus := ⟨_, rfl, rfl⟩ }
  | af => exact absurd rfl hp

theorem popAf_row (s : State) :
    WithinRow s (popPair .af s)
      { marks := (.computed, .computed, .computed, .computed), clearsLow := true, regs := [.a], writesSp := true
        bytes := 1, accesses := 3, cost := 3 } := by
  have hr := setStackPair_frame s .af s.top16
  rw [popPair_eq, dropTop_eq]
  exact
    { flags := ⟨trivial, trivial, trivial, trivial⟩, lowNibble := maskFlags_and_low _, regs := hr, sp := .inl rfl
      bus := ⟨_, rfl, rfl⟩ }

/-! ### Flag and accumulator operations, system, SP-relative (47, 48, 49) -/

theorem setCarry_row (s : State) :
    WithinRow s (setCarry s) { marks := (.keep, .zero, .zero, .one), bytes := 1, accesses := 1, cost := 1 } where
  flags := marksAllow_apply setCarry_meets s.f
  lowNibble := apply_and_low ..

theorem complementCarry_row (s : State) :
    WithinRow s (complementCarry s)
      { marks := (.keep, .zero, .zero, .computed), bytes := 1, accesses := 1, cost := 1 } where
  flags := marksAllow_apply (complementCarry_meets _) s.f
  lowNibble := apply_and_low ..

theorem adjustA_row {out : Alu8} {m : FlagMarks} (hm : out.flags.Meets m) (s : State) :
    WithinRow s (adjustA out s) { marks := m, regs := [.a], bytes := 1, accesses := 1, cost := 1 } where
  flags := marksAllow_apply hm s.f
  lowNibble := apply_and_low ..
  regs := setReg_frame s .a out.result

theorem complementA_row (s : State) :
    WithinRow s (complementA s)
      { marks := (.keep, .one, .one, .keep), regs := [.a], bytes := 1, accesses := 1, cost := 1 } :=
  adjustA_row complementA_meets s

theorem enterHalted_row (s : State) : WithinRow s (enterHalted s)
      { bytes := 1, accesses := 1, cost := 1 } where

theorem loadHlSpPlus_row (d : Byte) (s : State) :
    WithinRow s (loadHlSpPlus d s)
      { marks := (.zero, .zero, .computed, .computed), regs := [.h, .l], bytes := 2, accesses := 2, cost := 3 } where
  flags := marksAllow_apply (addsp_meets _ _) s.f
  lowNibble := apply_and_low ..
  regs := setHl_frame s _

theorem addToSp_row (d : Byte) (s : State) :
    WithinRow s (addToSp d s)
      { marks := (.zero, .zero, .computed, .computed), writesSp := true, bytes := 2, accesses := 2, cost := 4 } where
  flags := marksAllow_apply (addsp_meets _ _) s.f
  lowNibble := apply_and_low ..
  sp := .inl rfl

end Sys2Proof.Machine
end

section
/-! SUPPORT. The comparison of every instruction with its row of the tables. -/

namespace Sys2Proof.Machine

open Sys2Proof.Spec

/-- Every instruction completes and changes what its row of the tables says and nothing else: by the form of its
meaning, whose row is the instruction's. -/
theorem exec_row (i : Instr) (s : State) : ∃ t, exec i s = .next t ∧ WithinRow s t (rowOf i s) := by
  cases i with
  | ldBB | ldBC | ldBD | ldBE | ldBH | ldBL | ldBA | ldCB | ldCC | ldCD | ldCE | ldCH | ldCL | ldCA | ldDB | ldDC
    | ldDD | ldDE | ldDH | ldDL | ldDA | ldEB | ldEC | ldED | ldEE | ldEH | ldEL | ldEA | ldHB | ldHC | ldHD | ldHE
    | ldHH | ldHL | ldHA | ldLB | ldLC | ldLD | ldLE | ldLH | ldLL | ldLA | ldAB | ldAC | ldAD | ldAE | ldAH | ldAL
    | ldAA => exact ⟨_, rfl, loadRegReg_row _ _ s⟩
  | ldAIndBc | ldAIndDe | ldBIndHl | ldCIndHl | ldDIndHl | ldEIndHl | ldHIndHl | ldLIndHl | ldAIndHl | ldAIndC
    => exact ⟨_, rfl, loadRegFrom_row _ _ (bytes := 1) (by decide) s⟩
  | ldhAIndA8 => exact ⟨_, rfl, loadRegFrom_row _ _ (bytes := 2) (by decide) s⟩
  | ldAIndA16 => exact ⟨_, rfl, loadRegFrom_row _ _ (bytes := 3) (by decide) s⟩
  | ldBD8 | ldCD8 | ldDD8 | ldED8 | ldHD8 | ldLD8 | ldAD8 => exact ⟨_, rfl, loadRegImm_row _ _ s⟩
  | ldIndBcA | ldIndDeA | ldIndHlB | ldIndHlC | ldIndHlD | ldIndHlE | ldIndHlH | ldIndHlL | ldIndHlA | ldIndCA
    => exact ⟨_, rfl, storeByte_row _ _ (bytes := 1) (by decide) s⟩
  | ldIndHlD8 | ldhIndA8A => exact ⟨_, rfl, storeByte_row _ _ (bytes := 2) (by decide) s⟩
  | ldIndA16A => exact ⟨_, rfl, storeByte_row _ _ (bytes := 3) (by decide) s⟩
  | ldAIndHlInc | ldAIndHlDec => exact ⟨_, rfl, loadAPost_row _ s⟩
  | ldIndHlIncA | ldIndHlDecA => exact ⟨_, rfl, storeAPost_row _ s⟩
  | ldBcD16 | ldDeD16 | ldHlD16 | ldSpD16 => exact ⟨_, rfl, loadPairImm_row _ _ s⟩
  | ldSpHl => exact ⟨_, rfl, loadSpFromHl_row s⟩
  | ldIndA16Sp => exact ⟨_, rfl, storeSp_row _ s⟩
  | incB | incC | incD | incE | incH | incL | incA => exact ⟨_, rfl, stepReg_row inc8_meets _ s⟩
  | decB | decC | decD | decE | decH | decL | decA => exact ⟨_, rfl, stepReg_row dec8_meets _ s⟩
  | incIndHl => exact ⟨_, rfl, stepIndHl_row inc8_meets s⟩
  | decIndHl => exact ⟨_, rfl, stepIndHl_row dec8_meets s⟩
  | incBc | decBc | incDe | decDe | incHl | decHl | incSp | decSp => exact ⟨_, rfl, stepPair_row _ _ s⟩
  | addAB | addAC | addAD | addAE | addAH | addAL | addAA | adcAB | adcAC | adcAD | adcAE | adcAH | adcAL | adcAA
    | subB | subC | subD | subE | subH | subL | subA | sbcAB | sbcAC | sbcAD | sbcAE | sbcAH | sbcAL | sbcAA | andB
    | andC | andD | andE | andH | andL | andA | xorB | xorC | xorD | xorE | xorH | xorL | xorA | orB | orC | orD
    | orE | orH | orL | orA | cpB | cpC | cpD | cpE | cpH | cpL | cpA => exact ⟨_, rfl, aluReg_row _ _ s⟩
  | addAIndHl | adcAIndHl | subIndHl | sbcAIndHl | andIndHl | xorIndHl | orIndHl | cpIndHl
    => exact ⟨_, rfl, aluIndHl_row _ s⟩
  | addAD8 | adcAD8 | subD8 | sbcAD8 | andD8 | xorD8 | orD8 | cpD8 => exact ⟨_, rfl, aluImm_row _ _ s⟩
  | addHlBc | addHlDe | addHlHl | addHlSp => exact ⟨_, rfl, addHl_row _ s⟩
  | jrR8 => exact ⟨_, rfl, jump_row _ (bytes := 2) (by decide) s⟩
  | jrNzR8 | jrZR8 | jrNcR8 | jrCR8 => exact ⟨_, rfl, jumpRelativeIf_row _ _ s⟩
  | jpA16 => exact ⟨_, rfl, jump_row _ (bytes := 3) (by decide) s⟩
  | jpNzA16 | jpZA16 | jpNcA16 | jpCA16 => exact ⟨_, rfl, jumpAbsoluteIf_row _ _ s⟩
  | jpHl => exact ⟨_, rfl, jump_row _ (by decide) s⟩
  | callA16 t => exact ⟨_, rfl, push_row s.pc (some t) (bytes := 3) (by decide) s⟩
  | callNzA16 | callZA16 | callNcA16 | callCA16 => exact ⟨_, rfl, callAbsoluteIf_row _ _ s⟩
  | ret | reti => exact ⟨_, rfl, popPc_row (by decide) s⟩
  | retNz | retZ | retNc | retC => exact ⟨_, rfl, returnIf_row _ s⟩
  | pushBc | pushDe | pushHl | pushAf => exact ⟨_, rfl, push_row _ none (by decide) s⟩
  | popBc | popDe | popHl => exact ⟨_, rfl, popPair_row (by decide) s⟩
  | popAf => exact ⟨_, rfl, popAf_row s⟩
  | rst00H | rst08H | rst10H | rst18H | rst20H | rst28H | rst30H | rst38H
    => exact ⟨_, rfl, push_row s.pc (some _) (by decide) s⟩
  | scf => exact ⟨_, rfl, setCarry_row s⟩
  | ccf => exact ⟨_, rfl, complementCarry_row s⟩
  | cpl => exact ⟨_, rfl, complementA_row s⟩
  | rlca | rrca | rla | rra => exact ⟨_, rfl, adjustA_row (rotateFlags_meets _) s⟩
  | daa => exact ⟨_, rfl, adjustA_row (daa_meets _ _ _ _) s⟩
  | nop | stop | prefixCb | undefD3 | undefDB | undefDD | undefE3 | undefE4 | undefEB | undefEC | undefED | di
    | undefF4 | ei | undefFC | undefFD => exact ⟨_, rfl, charge_row (by decide) s⟩
  | halt => exact ⟨_, rfl, enterHalted_row s⟩
  | ldHlSpR8 => exact ⟨_, rfl, loadHlSpPlus_row _ s⟩
  | addSpR8 => exact ⟨_, rfl, addToSp_row _ s⟩

end Sys2Proof.Machine
end

section
/-! SUPPORT. Proofs of the statements about all instructions and all steps, from the row of every instruction. -/

namespace Sys2Proof.Machine

open Sys2Proof.Spec

/-- What running an instruction changes is within its row. -/
theorem withinRow_of_exec {i : Instr} {s t : State} (h : exec i s = .next t) : WithinRow s t (rowOf i s) := by
  obtain ⟨u, hu, hrow⟩ := exec_row i s
  rw [hu] at h
  exact Host.Outcome.next.inj h ▸ hrow

/-! ## Frames and flags -/

/-- Settles O20: the marks and the low nibble of the row. -/
theorem flagsChangeAsTabulated : Obligations.FlagsChangeAsTabulated := by
  unfold Obligations.FlagsChangeAsTabulated
  intro i s t h
  obtain ⟨hz, hn, hh, hc⟩ := (withinRow_of_exec h).flags
  refine ⟨hz, hn, hh, hc, (withinRow_of_exec h).lowNibble.trans ?_⟩
  simp only [rowOf, decide_eq_true_eq]

/-- Settles O22: what the row does not list keeps, and PC moves only to the row's target. -/
theorem registersOutsideTheFootprintKeep : Obligations.RegistersOutsideTheFootprintKeep := by
  unfold Obligations.RegistersOutsideTheFootprintKeep
  intro i s t h
  have hrow := withinRow_of_exec h
  refine ⟨fun r hr => (hrow.regs r).resolve_left hr, fun hsp => hrow.sp.resolve_left ?_, hrow.opcode, fun ht => ?_⟩
  · rw [rowOf, hsp]; exact Bool.false_ne_true
  · rw [hrow.pc, rowOf, ht]; rfl

/-- An address that is not stored to, or where nothing is stored, reads as before. -/
theorem readByte_of_exec {i : Instr} {s t : State} {x : Word} (h : exec i s = .next t)
    (hx : x ∉ storeAddresses i s ∨ storable x = false) : t.readByte x = s.readByte x := by
  refine ((withinRow_of_exec h).mem x).resolve_left fun ⟨hmem, hst⟩ => ?_
  cases hx with
  | inl hx => exact hx hmem
  | inr hx => exact Bool.false_ne_true (hx.symm.trans hst)

/-- Settles O23: the stores of the row, where they are stored. -/
theorem memoryOutsideTheStoresKeeps : Obligations.MemoryOutsideTheStoresKeeps := by
  unfold Obligations.MemoryOutsideTheStoresKeeps
  exact fun i s t x h hx => readByte_of_exec h hx

/-! ## Steps -/

/-- A running step completes within the row of the instruction at PC, from the state after the fetch. -/
theorem step_row {s : State} {i : Instr} {rest : List Byte} (hs : s.halted = false)
    (hd : decode (bytesAt s s.pc 3) = .ok i rest) :
    ∃ t, step s = .next t ∧ WithinRow (fetched s (encode i).length) t (rowOf i (fetched s (encode i).length)) := by
  rw [step_eq_exec_fetched hs hd]
  exact exec_row i _

/-- Settles O8: the row's target, in the state after the fetch, where PC is past the instruction. -/
theorem pcAdvancesPastTheInstructionOrToItsTarget : Obligations.PcAdvancesPastTheInstructionOrToItsTarget := by
  unfold Obligations.PcAdvancesPastTheInstructionOrToItsTarget
  refine ⟨fun s i rest hs hd => ?_, fun i => ⟨encode_length_pos i, encode_length_le i⟩, fun s t hs h => ?_⟩
  · obtain ⟨t, ht, hrow⟩ := step_row hs hd
    exact ⟨t, ht, hrow.pc⟩
  · obtain ⟨-, hpc, -, -⟩ := step_halted_frame hs h
    exact hpc

/-- The fetch leaves the condition of an instruction alone, and so its cost. -/
theorem costOf_fetched (i : Instr) (s : State) (n : Nat) : costOf i (fetched s n) = costOf i s := rfl

theorem busAccessesOf_fetched (i : Instr) (s : State) (n : Nat) :
    busAccessesOf i (fetched s n) = busAccessesOf i s := rfl

theorem fetchLog_length (s : State) (x : Word) (n : Nat) : (fetchLog s x n).length = n := by
  induction n generalizing x with
  | zero => rfl
  | succ n ih => rw [fetchLog, List.length_cons, ih]

/-- A running step costs, and accesses the bus, as the tables say of the instruction at PC in the state before. -/
theorem step_cost_accesses {s : State} {i : Instr} {rest : List Byte} (hs : s.halted = false)
    (hd : decode (bytesAt s s.pc 3) = .ok i rest) :
    ∃ t, step s = .next t ∧ t.cycles = s.cycles + costOf i s ∧ t.bus.length = busAccessesOf i s ∧
      1 ≤ busAccessesOf i s ∧ busAccessesOf i s ≤ costOf i s := by
  obtain ⟨t, ht, hrow⟩ := step_row hs hd
  obtain ⟨log, hlog, hacc⟩ := hrow.bus
  have hcycles := hrow.cycles
  have hle := hrow.accesses_le_cost
  simp only [rowOf, costOf_fetched, busAccessesOf_fetched] at hcycles hacc hle
  have hlen : t.bus.length = (encode i).length + log.length := by
    rw [hlog, List.length_append, fetched, fetchLog_length]
  have := encode_length_pos i
  exact ⟨t, ht, hcycles, by omega, by omega, hle⟩

theorem step_cycles_lt {s t : State} (h : step s = .next t) : s.cycles < t.cycles := by
  obtain ⟨-, rfl⟩ | ⟨hs, -⟩ := step_cases h
  · exact Nat.lt_succ_self _
  · obtain ⟨i, rest, hd⟩ := decode_bytesAt_three s
    obtain ⟨u, hu, hcycles, -, hpos, hle⟩ := step_cost_accesses hs hd
    obtain rfl := Host.Outcome.next.inj (hu.symm.trans h)
    omega

/-- Settles O9: the row's cost and accesses, of which the fetch makes as many as the instruction has bytes. -/
theorem stepsCostAndAccessAsTabulated : Obligations.StepsCostAndAccessAsTabulated := by
  unfold Obligations.StepsCostAndAccessAsTabulated
  exact ⟨fun s i rest hs hd => step_cost_accesses hs hd, fun s t => step_cycles_lt⟩

/-! ## What every step and every run keeps -/

theorem exec_keeps_inv {i : Instr} {s t : State} (hs : s.Inv) (h : exec i s = .next t) : t.Inv := by
  obtain ⟨hclean, hwf⟩ := hs
  have hrow := withinRow_of_exec h
  refine ⟨?_, hrow.wf hwf⟩
  rw [State.flagsClean, hrow.lowNibble, hclean]
  exact ite_self _

theorem step_keeps_inv {s t : State} (hs : s.Inv) (h : step s = .next t) : t.Inv := by
  obtain ⟨-, rfl⟩ | ⟨-, i, hi⟩ := step_cases_fetched h
  · exact hs
  · exact exec_keeps_inv (s := fetched s (encode i).length) hs hi

/-- Settles O10: the row leaves the low nibble of F or clears it, and every write keeps the canonical form. -/
theorem stepKeepsInvariant : Obligations.StepKeepsInvariant := by
  unfold Obligations.StepKeepsInvariant
  exact fun s t => step_keeps_inv

/-- Settles O11: F is 0xB0 after reset, and nothing is listed. -/
theorem resetMeetsInvariant : Obligations.ResetMeetsInvariant := by
  unfold Obligations.ResetMeetsInvariant
  exact ⟨by decide, reset_mem_wf⟩

theorem after_keeps_inv {s t : State} (ev : Event) (hs : s.Inv) (h : s.after ev = .next t) : t.Inv := by
  cases ev with
  | step => exact step_keeps_inv hs h
  | wake =>
    obtain rfl := Host.Outcome.next.inj h
    rwa [State.Inv, State.flagsClean, State.wake_f, State.wake_mem]
  | reset =>
    obtain rfl := Host.Outcome.next.inj h
    exact ⟨resetMeetsInvariant.1, hs.2⟩

/-- Settles O12: every event completes and keeps the invariant. -/
theorem everyRunIsSafeAndKeepsInvariant : Obligations.EveryRunIsSafeAndKeepsInvariant := by
  unfold Obligations.EveryRunIsSafeAndKeepsInvariant
  intro evs s hs
  obtain ⟨t, ht⟩ := run_completes evs s
  exact ⟨t, ht, run_keeps after_keeps_inv evs hs ht⟩

theorem step_keeps_readByte {s t : State} {x : Word} (hx : storable x = false) (h : step s = .next t) :
    t.readByte x = s.readByte x := by
  obtain ⟨-, rfl⟩ | ⟨-, i, hi⟩ := step_cases_fetched h
  · rfl
  · exact readByte_of_exec (s := fetched s (encode i).length) hi (.inr hx)

theorem after_keeps_readByte {s t : State} {x : Word} (hx : storable x = false) (ev : Event) (h : s.after ev = .next t) :
    t.readByte x = s.readByte x := by
  cases ev with
  | step => exact step_keeps_readByte hx h
  | wake =>
    obtain rfl := Host.Outcome.next.inj h
    rw [State.readByte, State.wake_mem, State.readByte]
  | reset =>
    obtain rfl := Host.Outcome.next.inj h
    rfl

/-- Settles O24: the ROM window stores no write, so every event keeps what it reads. -/
theorem cartridgeRomIsImmutable : Obligations.CartridgeRomIsImmutable := by
  unfold Obligations.CartridgeRomIsImmutable
  intro evs s t x hx h
  have hst : storable x = false := by
    simp only [storable, Bool.or_eq_false_iff, Bool.and_eq_false_iff, decide_eq_false_iff_not]
    omega
  exact run_keeps (P := fun u => u.readByte x = s.readByte x) (fun ev hu hev => (after_keeps_readByte hst ev hev).trans hu)
    evs rfl h

end Sys2Proof.Machine
end

section
/-! SUPPORT. Proof that nothing reads `cycles`, `opcode` and the bus log (10_state.md section 4). -/

namespace Sys2Proof.Machine

open Sys2Proof.Spec

/-- An effect adds a number to `cycles`, and neither the number nor the rest of the effect depends on `cycles`. -/
def OnlyCounts (F : State → State) : Prop :=
  ∀ s, ∃ k, (F s).cycles = s.cycles + k ∧ ∀ n, F { s with cycles := n } = { F s with cycles := n + k }

/-- A choice between two such effects, by a condition that does not read `cycles`, is one. -/
theorem OnlyCounts.ite {c : State → Bool} {F G : State → State} (hc : ∀ s n, c { s with cycles := n } = c s)
    (hF : OnlyCounts F) (hG : OnlyCounts G) : OnlyCounts fun s => if c s then F s else G s := by
  intro s
  cases h : c s
  · simpa only [OnlyCounts, hc, h, Bool.false_eq_true, if_false] using hG s
  · simpa only [OnlyCounts, hc, h, if_true] using hF s

theorem condHolds_reads_no_cycles (cc : Cond) (s : State) (n : Nat) :
    ({ s with cycles := n } : State).condHolds cc = s.condHolds cc := by
  cases cc <;> rfl

theorem jumpRelativeIf_onlyCounts (cc : Cond) (d : Byte) : OnlyCounts (jumpRelativeIf cc d) :=
  .ite (condHolds_reads_no_cycles cc) (fun _ => ⟨_, rfl, fun _ => rfl⟩) fun _ => ⟨_, rfl, fun _ => rfl⟩

theorem jumpAbsoluteIf_onlyCounts (cc : Cond) (t : Word) : OnlyCounts (jumpAbsoluteIf cc t) :=
  .ite (condHolds_reads_no_cycles cc) (fun _ => ⟨_, rfl, fun _ => rfl⟩) fun _ => ⟨_, rfl, fun _ => rfl⟩

theorem callAbsoluteIf_onlyCounts (cc : Cond) (t : Word) : OnlyCounts (callAbsoluteIf cc t) :=
  .ite (condHolds_reads_no_cycles cc) (fun _ => ⟨_, rfl, fun _ => rfl⟩) fun _ => ⟨_, rfl, fun _ => rfl⟩

theorem returnIf_onlyCounts (cc : Cond) : OnlyCounts (returnIf cc) :=
  .ite (condHolds_reads_no_cycles cc) (fun _ => ⟨_, rfl, fun _ => rfl⟩) fun _ => ⟨_, rfl, fun _ => rfl⟩

/-- No meaning reads `cycles`: but for the conditional forms each is a record update in which `cycles` stands only in
the sum with the cost. -/
theorem exec_onlyCounts (i : Instr) : ∃ F, (∀ s, exec i s = .next (F s)) ∧ OnlyCounts F := by
  cases i with
  | jrNzR8 | jrZR8 | jrNcR8 | jrCR8 => exact ⟨_, fun _ => rfl, jumpRelativeIf_onlyCounts _ _⟩
  | jpNzA16 | jpZA16 | jpNcA16 | jpCA16 => exact ⟨_, fun _ => rfl, jumpAbsoluteIf_onlyCounts _ _⟩
  | callNzA16 | callZA16 | callNcA16 | callCA16 => exact ⟨_, fun _ => rfl, callAbsoluteIf_onlyCounts _ _⟩
  | retNz | retZ | retNc | retC => exact ⟨_, fun _ => rfl, returnIf_onlyCounts _⟩
  | _ => exact ⟨_, fun _ => rfl, fun _ => ⟨_, rfl, fun _ => rfl⟩⟩

/-- The fetch starts the bus log afresh and sets `opcode`, so of the three only `cycles` reaches the meaning. -/
theorem fetchOperand_diagnostics (e : Entry) (s : State) (n : Nat) (op : Byte) (log : List BusAccess) :
    ({ s with cycles := n, opcode := op, bus := log } : State).beginStep.fetchOpcode.fetchOperand e =
      ((s.beginStep.fetchOpcode.fetchOperand e).1,
        { (s.beginStep.fetchOpcode.fetchOperand e).2 with cycles := n }) := by
  cases e <;> rfl

theorem fetchInstr_diagnostics (s : State) (n : Nat) (op : Byte) (log : List BusAccess) :
    ({ s with cycles := n, opcode := op, bus := log } : State).beginStep.fetchInstr =
      (s.beginStep.fetchInstr.1, { s.beginStep.fetchInstr.2 with cycles := n }) :=
  fetchOperand_diagnostics (handler (s.readByte s.pc)) s n op log

theorem fetchInstr_cycles (s : State) : s.beginStep.fetchInstr.2.cycles = s.cycles := by
  rw [State.fetchInstr, fetchOperand_frame]
  rfl

/-- Settles O13: a halted step is the idle step; a running one is an effect that only counts, after a fetch that forgets
`opcode` and the bus log. -/
theorem diagnosticStateIsNeverRead : Obligations.DiagnosticStateIsNeverRead := by
  unfold Obligations.DiagnosticStateIsNeverRead
  intro s t n op log h
  obtain ⟨hs, rfl⟩ | ⟨hs, h⟩ := step_cases h
  · refine ⟨1, rfl, ?_⟩
    rw [if_pos hs]
    exact step_halted (s := { s with cycles := n, opcode := op, bus := log }) hs
  · obtain ⟨F, hF, hcounts⟩ := exec_onlyCounts s.beginStep.fetchInstr.1
    rw [hF] at h
    obtain rfl := Host.Outcome.next.inj h
    obtain ⟨k, hk, hn⟩ := hcounts s.beginStep.fetchInstr.2
    refine ⟨k, by rw [hk, fetchInstr_cycles], ?_⟩
    rw [if_neg (Bool.eq_false_iff.1 hs), step_running (s := { s with cycles := n, opcode := op, bus := log }) hs,
      fetchInstr_diagnostics, hF, hn]

end Sys2Proof.Machine
end

section
/-! SUPPORT. Proofs of the statements about the ALU helpers that rest on a decision or an inference of the spec
(41_alu_helpers.md), and each helper's result and flag byte in the terms of `Safety/Terms.lean`. -/

namespace Sys2Proof.Machine

open Sys2Proof.Spec

/-! ## Results as machine arithmetic -/

theorem inc8_result (v : Byte) : (inc8 v).result = v + 1 := BitVec.eq_of_toNat_eq (inc8_result_toNat v)

theorem dec8_result (v : Byte) : (dec8 v).result = v - 1 := by
  apply BitVec.eq_of_toNat_eq
  rw [dec8_result_toNat]
  bv_omega

theorem adc8_result (a b : Byte) (c : Bool) : (adc8 a b c).result = a + b + BitVec.ofNat 8 c.toNat := by
  apply BitVec.eq_of_toNat_eq
  rw [adc8_result_toNat]
  simp only [BitVec.toNat_add, BitVec.toNat_ofNat]
  omega

theorem add8_result_toNat (a b : Byte) : (add8 a b).result.toNat = (a.toNat + b.toNat) % 256 :=
  adc8_result_toNat a b false

theorem add8_result (a b : Byte) : (add8 a b).result = a + b :=
  BitVec.eq_of_toNat_eq (adc8_result_toNat a b false)

theorem sub8_result (a b : Byte) : (sub8 a b).result = a - b := by
  apply BitVec.eq_of_toNat_eq
  rw [sub8_result_toNat]
  bv_omega

/-- R164: the difference, with 512 lent so that it is a natural number. -/
theorem sbc8_result_toNat (a b : Byte) (c : Bool) :
    (sbc8 a b c).result.toNat = (a.toNat + 512 - b.toNat - c.toNat) % 256 := by
  have hint : (sbc8 a b c).result.toNat = (((a.toNat : Int) - b.toNat - c.toNat) % 256).toNat := BitVec.toNat_ofInt ..
  have := c.toNat_le
  omega

theorem sbc8_result (a b : Byte) (c : Bool) : (sbc8 a b c).result = a - b - BitVec.ofNat 8 c.toNat := by
  apply BitVec.eq_of_toNat_eq
  have := c.toNat_le
  rw [sbc8_result_toNat]
  simp only [BitVec.toNat_sub, BitVec.toNat_ofNat]
  omega

theorem sbc8_flags (a b : Byte) (c : Bool) :
    (sbc8 a b c).flags =
      { z := some (decide ((a.toNat + 512 - b.toNat - c.toNat) % 256 = 0)), n := some true
        h := some (decide ((a &&& 0xF).toNat < (b &&& 0xF).toNat + c.toNat))
        c := some (decide (a.toNat < b.toNat + c.toNat)) } := by
  rw [← sbc8_result_toNat, ← beq_zero_eq_decide_toNat, toNat_and_lowNibble, toNat_and_lowNibble]
  rfl

/-- Settles O30: the result from the integer difference, the borrows as the helper has them. -/
theorem subtractWithCarryBorrowsThreeWays : Obligations.SubtractWithCarryBorrowsThreeWays := by
  unfold Obligations.SubtractWithCarryBorrowsThreeWays
  exact fun a b c => ⟨sbc8_result_toNat a b c, sbc8_flags a b c⟩

theorem add16_result (a b : Word) : (add16 a b).result = a + b := BitVec.eq_of_toNat_eq (add16_result_toNat a b)

/-- Settles O34: each law is one of modular arithmetic. -/
theorem roundTripLawsHold : Obligations.RoundTripLawsHold := by
  unfold Obligations.RoundTripLawsHold
  refine ⟨fun a b => ?_, fun v => ⟨dec8_inc8_result v, ?_, rfl, rfl⟩, fun a v c => rfl, fun sp d => ?_⟩
  · rw [sub8_result, add8_result, BitVec.add_sub_cancel]
  · rw [inc8_result, dec8_result, BitVec.sub_add_cancel]
  · rw [add16_result]; rfl

/-- A displacement added modulo 2^16 is the integer sum taken modulo 2^16 (R113). -/
theorem add_signExtend16 (x : Word) (d : Byte) : x + signExtend16 d = BitVec.ofInt 16 ((x.toNat : Int) + d.toInt) := by
  rw [BitVec.ofInt_add, BitVec.ofInt_natCast, BitVec.ofNat_toNat, BitVec.setWidth_eq]
  rfl

theorem inc16_eq (v : Word) : inc16 v = BitVec.ofNat 16 (v.toNat + 1) := by
  rw [inc16, BitVec.ofNat_add, BitVec.ofNat_toNat, BitVec.setWidth_eq]
  rfl

theorem dec16_eq (v : Word) : dec16 v = BitVec.ofNat 16 (v.toNat + 65535) := by
  rw [dec16, BitVec.ofNat_add, BitVec.ofNat_toNat, BitVec.setWidth_eq, BitVec.sub_eq_add_neg]
  rfl

/-! ## Rotates -/

theorem bitByte_toNat (b : Bool) : (bitByte b).toNat = b.toNat := by
  cases b <;> rfl

/-- A left shift with a bit moved in at the bottom. -/
theorem shiftIn_low (a : Byte) (b : Bool) : (a <<< 1) ||| bitByte b = BitVec.ofNat 8 (a.toNat * 2 + b.toNat) := by
  apply BitVec.eq_of_toNat_eq
  have hb := b.toNat_lt
  have hshift : a.toNat <<< 1 % 2 ^ 8 = (a.toNat % 128) <<< 1 := by
    rw [Nat.shiftLeft_eq, Nat.shiftLeft_eq]
    omega
  rw [BitVec.toNat_or, BitVec.toNat_shiftLeft, bitByte_toNat, hshift,
    ← Nat.shiftLeft_add_eq_or_of_lt (i := 1) hb, Nat.shiftLeft_eq, BitVec.toNat_ofNat]
  omega

/-- A right shift with a bit moved in at the top. -/
theorem shiftIn_high (a : Byte) (b : Bool) :
    (a >>> 1) ||| (bitByte b <<< 7) = BitVec.ofNat 8 (a.toNat / 2 + 128 * b.toNat) := by
  apply BitVec.eq_of_toNat_eq
  have hb := b.toNat_lt
  have ha : a.toNat >>> 1 < 2 ^ 7 := by
    rw [Nat.shiftRight_eq_div_pow]
    omega
  have hshift : b.toNat <<< 7 % 2 ^ 8 = b.toNat <<< 7 := by
    rw [Nat.shiftLeft_eq]
    omega
  rw [BitVec.toNat_or, BitVec.toNat_ushiftRight, BitVec.toNat_shiftLeft, bitByte_toNat, hshift, Nat.or_comm,
    ← Nat.shiftLeft_add_eq_or_of_lt ha, Nat.shiftLeft_eq, Nat.shiftRight_eq_div_pow, BitVec.toNat_ofNat]
  omega

/-! ## Decimal adjust -/

/-- The correction as a number: the two digits' corrections share no bit. -/
theorem daa_adjustment_toNat (low high : Bool) :
    (((if low then 0x06 else 0) ||| (if high then 0x60 else 0) : Byte)).toNat =
      (if low then 6 else 0) + if high then 0x60 else 0 := by
  cases low <;> cases high <;> rfl

/-- R172, the value, in numbers. -/
theorem daa_result (a : Byte) (n h c : Bool) :
    (daa a n h c).result =
      BitVec.ofNat 8 (if n then a.toNat + 256 - ((if daaLow a n h then 6 else 0) + if daaHigh a n c then 0x60 else 0)
        else a.toNat + ((if daaLow a n h then 6 else 0) + if daaHigh a n c then 0x60 else 0)) := by
  rw [← daa_adjustment_toNat]
  apply BitVec.eq_of_toNat_eq
  cases n
  · exact (BitVec.toNat_add ..).trans (BitVec.toNat_ofNat ..).symm
  · rw [if_pos rfl, BitVec.toNat_ofNat]
    refine (BitVec.toNat_sub ..).trans ?_
    have := BitVec.isLt ((if daaLow a true h then 0x06 else 0) ||| (if daaHigh a true c then 0x60 else 0) : Byte)
    omega

theorem isBcd_iff (a : Byte) : isBcd a = true ↔ a.toNat % 16 ≤ 9 ∧ a.toNat / 16 ≤ 9 := by
  simp only [isBcd, Bool.and_eq_true, decide_eq_true_eq]

/-- R172, the flags: Z tells that the digits are both 0, C that the high one was corrected. -/
theorem daa_flags (a : Byte) (n h c : Bool) :
    (daa a n h c).flags =
      { z := some (decide (bcdValue (daa a n h c).result = 0)), n := none, h := some false
        c := some (daaHigh a n c) } := by
  have hzero : bcdValue (daa a n h c).result = 0 ↔ (daa a n h c).result.toNat = 0 := by
    unfold bcdValue
    omega
  rw [decide_eq_decide.2 hzero, ← beq_zero_eq_decide_toNat]
  rfl

/-- After an addition of packed BCD the low digit is corrected when the two low digits carry in decimal. -/
theorem daaLow_add8 {a b : Byte} (ha : isBcd a = true) (hb : isBcd b = true) :
    daaLow (add8 a b).result false ((add8 a b).flags.h.getD false) =
      decide (10 ≤ a.toNat % 16 + b.toNat % 16) := by
  rw [isBcd_iff] at ha hb
  have hsum := add8_result_toNat a b
  have hflag : (add8 a b).flags.h.getD false = decide (lowNibble a + lowNibble b > 0xF) := rfl
  rw [hflag, Bool.eq_iff_iff]
  simp only [daaLow, Bool.not_false, Bool.true_and, Bool.or_eq_true, decide_eq_true_eq]
  unfold lowNibble
  omega

/-- The high digit is corrected when the decimal sum is 100 or more. -/
theorem daaHigh_add8 {a b : Byte} (ha : isBcd a = true) (hb : isBcd b = true) :
    daaHigh (add8 a b).result false ((add8 a b).flags.c.getD false) = decide (100 ≤ bcdValue a + bcdValue b) := by
  rw [isBcd_iff] at ha hb
  have hsum := add8_result_toNat a b
  have hflag : (add8 a b).flags.c.getD false = decide (a.toNat + b.toNat > 0xFF) := rfl
  rw [hflag, Bool.eq_iff_iff]
  simp only [daaHigh, Bool.not_false, Bool.true_and, Bool.or_eq_true, decide_eq_true_eq]
  unfold bcdValue
  omega

/-- After a subtraction of packed BCD the low digit is corrected when it borrowed. -/
theorem daaLow_sub8 (a b : Byte) :
    daaLow (sub8 a b).result true ((sub8 a b).flags.h.getD false) = decide (a.toNat % 16 < b.toNat % 16) :=
  Bool.or_false _

/-- The high digit is corrected when the decimal difference is negative. -/
theorem daaHigh_sub8 {a b : Byte} (ha : isBcd a = true) (hb : isBcd b = true) :
    daaHigh (sub8 a b).result true ((sub8 a b).flags.c.getD false) = decide (bcdValue a < bcdValue b) := by
  rw [isBcd_iff] at ha hb
  have hflag : daaHigh (sub8 a b).result true ((sub8 a b).flags.c.getD false) = decide (a.toNat < b.toNat) :=
    Bool.or_false _
  rw [hflag, decide_eq_decide, bcdValue, bcdValue]
  omega

/-- A byte with decimal digits `hi` and `lo` is packed BCD for the number they write. -/
theorem bcd_of_digits {r : Byte} {v : Nat} (hi lo : Nat) (hr : r.toNat = 16 * hi + lo) (hhi : hi ≤ 9) (hlo : lo ≤ 9)
    (hv : v = 10 * hi + lo) : isBcd r = true ∧ bcdValue r = v := by
  rw [isBcd_iff]
  unfold bcdValue
  omega

/-- The digits of the decimal sum: a digit that carries drops 10, and carries 1 to the next. -/
theorem daa_add8_digits {a b : Byte} (ha : isBcd a = true) (hb : isBcd b = true) {r : Byte}
    (hr : r = (daa (add8 a b).result false ((add8 a b).flags.h.getD false) ((add8 a b).flags.c.getD false)).result) :
    isBcd r = true ∧ bcdValue r = (bcdValue a + bcdValue b) % 100 := by
  have hval := congrArg BitVec.toNat hr
  rw [daa_result, daaLow_add8 ha hb, daaHigh_add8 ha hb, add8_result_toNat, BitVec.toNat_ofNat] at hval
  simp only [decide_eq_true_eq, Bool.false_eq_true, if_false] at hval
  rw [isBcd_iff] at ha hb
  unfold bcdValue at *
  split_ifs at hval
  · exact bcd_of_digits (a.toNat / 16 + b.toNat / 16 - 9) (a.toNat % 16 + b.toNat % 16 - 10) (by omega) (by omega)
      (by omega) (by omega)
  · exact bcd_of_digits (a.toNat / 16 + b.toNat / 16 + 1) (a.toNat % 16 + b.toNat % 16 - 10) (by omega) (by omega)
      (by omega) (by omega)
  · exact bcd_of_digits (a.toNat / 16 + b.toNat / 16 - 10) (a.toNat % 16 + b.toNat % 16) (by omega) (by omega)
      (by omega) (by omega)
  · exact bcd_of_digits (a.toNat / 16 + b.toNat / 16) (a.toNat % 16 + b.toNat % 16) (by omega) (by omega) (by omega)
      (by omega)

/-- The digits of the decimal difference: a digit that borrows gains 10, and takes 1 from the next. -/
theorem daa_sub8_digits {a b : Byte} (ha : isBcd a = true) (hb : isBcd b = true) {r : Byte}
    (hr : r = (daa (sub8 a b).result true ((sub8 a b).flags.h.getD false) ((sub8 a b).flags.c.getD false)).result) :
    isBcd r = true ∧ bcdValue r = (100 + bcdValue a - bcdValue b) % 100 := by
  have hval := congrArg BitVec.toNat hr
  rw [daa_result, daaLow_sub8, daaHigh_sub8 ha hb, sub8_result_toNat, BitVec.toNat_ofNat] at hval
  simp only [decide_eq_true_eq, if_true] at hval
  rw [isBcd_iff] at ha hb
  unfold bcdValue at *
  split_ifs at hval
  · exact bcd_of_digits (9 + a.toNat / 16 - b.toNat / 16) (10 + a.toNat % 16 - b.toNat % 16) (by omega) (by omega)
      (by omega) (by omega)
  · exact bcd_of_digits (a.toNat / 16 - 1 - b.toNat / 16) (10 + a.toNat % 16 - b.toNat % 16) (by omega) (by omega)
      (by omega) (by omega)
  · exact bcd_of_digits (10 + a.toNat / 16 - b.toNat / 16) (a.toNat % 16 - b.toNat % 16) (by omega) (by omega)
      (by omega) (by omega)
  · exact bcd_of_digits (a.toNat / 16 - b.toNat / 16) (a.toNat % 16 - b.toNat % 16) (by omega) (by omega) (by omega)
      (by omega)

theorem bcdValue_lt {a : Byte} (ha : isBcd a = true) : bcdValue a < 100 := by
  rw [isBcd_iff] at ha
  unfold bcdValue
  omega

/-- A byte that is packed BCD needs no correction when no flag asks for one. -/
theorem daa_of_isBcd {a : Byte} (ha : isBcd a = true) :
    daa a false false false =
      { result := a, flags := { z := some (decide (a = 0)), n := none, h := some false, c := some false } } := by
  rw [isBcd_iff] at ha
  have hlow : daaLow a false false = false := decide_eq_false (by unfold lowNibble; omega)
  have hhigh : daaHigh a false false = false := decide_eq_false (by omega)
  simp [daa, hlow, hhigh, beq_eq_decide]

/-- Settles O35: the digits by the corrections, Z by the value of the digits, C by the correction of the high one. -/
theorem daaAdjustsToPackedBcd : Obligations.DaaAdjustsToPackedBcd := by
  unfold Obligations.DaaAdjustsToPackedBcd
  refine ⟨fun a b ha hb => ?_, fun a b ha hb => ?_, fun a => daa_of_isBcd⟩
  · obtain ⟨hbcd, hval⟩ := daa_add8_digits ha hb rfl
    refine ⟨hbcd, hval, ?_⟩
    rw [daa_flags, hval, daaHigh_add8 ha hb]
  · obtain ⟨hbcd, hval⟩ := daa_sub8_digits ha hb rfl
    have := bcdValue_lt ha
    have := bcdValue_lt hb
    have hzero : (100 + bcdValue a - bcdValue b) % 100 = 0 ↔ bcdValue a = bcdValue b := by omega
    refine ⟨hbcd, hval, ?_⟩
    rw [daa_flags, hval, daaHigh_sub8 ha hb, decide_eq_decide.2 hzero]

end Sys2Proof.Machine
end

section
/-! SUPPORT. Proofs of the statements about the loads, counts and arithmetic instructions: for every family of rows its
encoding and its shared form, and the form's effect in the words of the statement. -/

namespace Sys2Proof.Machine

open Sys2Proof.Spec

/-! ## Loads (42_loads.md) -/

theorem exec_ldRegReg (dst src : Reg8) (s : State) : exec (.ldRegReg dst src) s = .next (loadRegReg dst src s) := by
  cases dst <;> cases src <;> rfl

theorem encode_ldRegReg (dst src : Reg8) :
    encode (.ldRegReg dst src) = [BitVec.ofNat 8 (0x40 + 8 * dst.code + src.code)] := by
  cases dst <;> cases src <;> rfl

theorem exec_ldRegD8 (dst : Reg8) (v : Byte) (s : State) : exec (.ldRegD8 dst v) s = .next (loadRegImm dst v s) := by
  cases dst <;> rfl

theorem encode_ldRegD8 (dst : Reg8) (v : Byte) :
    encode (.ldRegD8 dst v) = [BitVec.ofNat 8 (0x06 + 8 * dst.code), v] := by
  cases dst <;> rfl

/-- Settles O36: the two register forms. -/
theorem registerLoadsComplete : Obligations.RegisterLoadsComplete := by
  unfold Obligations.RegisterLoadsComplete
  refine ⟨fun dst src s => ⟨.of_encode (encode_ldRegReg dst src), ?_⟩,
    fun dst v s => ⟨.of_encode (encode_ldRegD8 dst v), ?_⟩⟩
  · rw [exec_ldRegReg, loadRegReg_eq]
  · rw [exec_ldRegD8, loadRegImm_eq]

theorem exec_ldRegIndHl (dst : Reg8) (s : State) :
    exec (.ldRegIndHl dst) s = .next (loadRegFrom dst s.hl Cost.ldRegIndHl s) := by
  cases dst <;> rfl

theorem encode_ldRegIndHl (dst : Reg8) : encode (.ldRegIndHl dst) = [BitVec.ofNat 8 (0x46 + 8 * dst.code)] := by
  cases dst <;> rfl

/-- R114, R215: the high page is the addresses with high byte 0xFF. -/
theorem highPage_eq (off : Byte) : highPage off = word16 0xFF off := by
  apply BitVec.eq_of_toNat_eq
  rw [word16_toNat, highPage, zeroExtend16, BitVec.toNat_add, BitVec.toNat_setWidth]
  simp only [BitVec.ofNat_eq_ofNat, BitVec.toNat_ofNat]
  omega

/-- What a load of A from memory answers: A takes the byte at the address, and the read is logged. -/
theorem loadAFrom_next (x : Word) (n : Nat) (s : State) :
    (.next (loadRegFrom .a x n s) : Result) =
      .next { s with a := s.readByte x, cycles := s.cycles + n, bus := s.bus ++ [.read x (s.readByte x)] } := rfl

/-- Settles O37: one form, at the address of each instruction. -/
theorem loadsFromMemoryComplete : Obligations.LoadsFromMemoryComplete := by
  unfold Obligations.LoadsFromMemoryComplete
  refine ⟨fun dst s => ⟨.of_encode (encode_ldRegIndHl dst), ?_⟩, fun s a16 a8 =>
    ⟨⟨.of_encode rfl, loadAFrom_next ..⟩, ⟨.of_encode rfl, loadAFrom_next ..⟩, ⟨.of_encode rfl, loadAFrom_next ..⟩,
      ⟨.of_encode rfl, ?_⟩, ⟨.of_encode rfl, ?_⟩⟩⟩
  · rw [exec_ldRegIndHl, loadRegFrom_eq]; rfl
  · rw [← highPage_eq]
    exact loadAFrom_next ..
  · rw [← highPage_eq]
    exact loadAFrom_next ..

theorem exec_ldIndHlReg (src : Reg8) (s : State) :
    exec (.ldIndHlReg src) s = .next (storeByte s.hl (s.getReg src) Cost.ldIndHlReg s) := by
  cases src <;> rfl

theorem encode_ldIndHlReg (src : Reg8) : encode (.ldIndHlReg src) = [BitVec.ofNat 8 (0x70 + src.code)] := by
  cases src <;> rfl

/-- What the store of one byte answers: the byte is written at the address, and nothing else changes. -/
theorem storeByte_written (x : Word) (v : Byte) (n : Nat) (s : State) :
    ∃ m, (.next (storeByte x v n s) : Result) =
        .next { s with mem := m, cycles := s.cycles + n, bus := s.bus ++ [.write x v] } ∧
      Written s.mem m x v :=
  ⟨_, rfl, written_writeByte s.mem x v⟩

/-- Settles O38: one form, at the address of each instruction. -/
theorem byteStoresComplete : Obligations.ByteStoresComplete := by
  unfold Obligations.ByteStoresComplete
  refine ⟨fun src s => ⟨.of_encode (encode_ldIndHlReg src), ?_⟩, fun s a16 v =>
    ⟨⟨.of_encode rfl, storeByte_written ..⟩, ⟨.of_encode rfl, storeByte_written ..⟩,
      ⟨.of_encode rfl, storeByte_written ..⟩, ⟨.of_encode rfl, storeByte_written ..⟩, ⟨.of_encode rfl, ?_⟩,
      ⟨.of_encode rfl, ?_⟩⟩⟩
  · rw [exec_ldIndHlReg]
    exact storeByte_written ..
  · rw [← highPage_eq]
    exact storeByte_written ..
  · rw [← highPage_eq]
    exact storeByte_written ..

/-- Settles O39: the access at HL, then the pair HL written with its neighbour. -/
theorem postModifiedLoadsComplete : Obligations.PostModifiedLoadsComplete := by
  unfold Obligations.PostModifiedLoadsComplete
  exact fun s => ⟨⟨.of_encode rfl, congrArg Host.Outcome.next (loadAPost_eq (inc16 s.hl) s)⟩,
    ⟨.of_encode rfl, congrArg Host.Outcome.next (loadAPost_eq (dec16 s.hl) s)⟩,
    ⟨.of_encode rfl, _, congrArg Host.Outcome.next (storeAPost_eq (inc16 s.hl) s), written_writeByte s.mem s.hl s.a⟩,
    ⟨.of_encode rfl, _, congrArg Host.Outcome.next (storeAPost_eq (dec16 s.hl) s), written_writeByte s.mem s.hl s.a⟩⟩

/-- Settles O41: two writes at neighbouring addresses, which differ also across the wrap. -/
theorem storeSpCompletes : Obligations.StoreSpCompletes := by
  unfold Obligations.StoreSpCompletes
  intro s a16
  refine ⟨.of_encode rfl, _, ?_, writtenTwice_writeByte s.mem (word_ne_succ a16) (loByte s.sp) (hiByte s.sp)⟩
  rw [exec, execLdIndA16Sp, storeSp_eq, List.append_assoc]
  rfl

/-! ## Pairs (42_loads.md section 5, 43_incdec.md) -/

theorem exec_ldPairD16 (p : Pair) (v : Word) (s : State) :
    exec (.ldPairD16 p v) s = .next (loadPairImm p v s) := by
  cases p <;> rfl

theorem encode_ldPairD16 (p : Pair) (v : Word) :
    encode (.ldPairD16 p v) = [BitVec.ofNat 8 (0x01 + 16 * p.code), loByte v, hiByte v] := by
  cases p <;> rfl

theorem exec_incPair (p : Pair) (s : State) : exec (.incPair p) s = .next (stepPair inc16 p s) := by
  cases p <;> rfl

theorem encode_incPair (p : Pair) : encode (.incPair p) = [BitVec.ofNat 8 (0x03 + 16 * p.code)] := by
  cases p <;> rfl

theorem exec_decPair (p : Pair) (s : State) : exec (.decPair p) s = .next (stepPair dec16 p s) := by
  cases p <;> rfl

theorem encode_decPair (p : Pair) : encode (.decPair p) = [BitVec.ofNat 8 (0x0B + 16 * p.code)] := by
  cases p <;> rfl

/-- Settles O40: the pair forms, with the counts as sums modulo 2^16. -/
theorem pairLoadsAndCountsComplete : Obligations.PairLoadsAndCountsComplete := by
  unfold Obligations.PairLoadsAndCountsComplete
  refine ⟨fun p v s => ⟨.of_encode (encode_ldPairD16 p v), ?_⟩, fun s => ⟨.of_encode rfl, rfl⟩,
    fun p s => ⟨⟨.of_encode (encode_incPair p), ?_⟩, .of_encode (encode_decPair p), ?_⟩⟩
  · rw [exec_ldPairD16, loadPairImm_eq]
  · rw [exec_incPair, stepPair_eq, inc16_eq]
  · rw [exec_decPair, stepPair_eq, dec16_eq]

/-! ## 8-bit counts (43_incdec.md) -/

theorem exec_incReg (r : Reg8) (s : State) : exec (.incReg r) s = .next (stepReg inc8 r s) := by
  cases r <;> rfl

theorem encode_incReg (r : Reg8) : encode (.incReg r) = [BitVec.ofNat 8 (0x04 + 8 * r.code)] := by
  cases r <;> rfl

theorem exec_decReg (r : Reg8) (s : State) : exec (.decReg r) s = .next (stepReg dec8 r s) := by
  cases r <;> rfl

theorem encode_decReg (r : Reg8) : encode (.decReg r) = [BitVec.ofNat 8 (0x05 + 8 * r.code)] := by
  cases r <;> rfl

theorem inc8_apply (v f : Byte) :
    (inc8 v).flags.apply f = withFlags f (decide (v + 1 = 0)) false (decide ((v + 1) &&& 0xF = 0)) (f.getLsbD 4) := by
  rw [apply_eq_withFlags, inc8_flags, inc8_result]
  rfl

theorem dec8_apply (v f : Byte) :
    (dec8 v).flags.apply f =
      withFlags f (decide (v - 1 = 0)) true (decide ((v - 1) &&& 0xF = 0xF)) (f.getLsbD 4) := by
  rw [apply_eq_withFlags, dec8_flags, dec8_result]
  rfl

/-- What a count at HL answers: one read and one write there, the flags from the byte read. -/
theorem stepIndHl_written (op : Byte → Alu8) (s : State) :
    ∃ m, (.next (stepIndHl op s) : Result) = .next
        { s with
          f := (op (s.readByte s.hl)).flags.apply s.f, mem := m, cycles := s.cycles + 3
          bus := s.bus ++ [.read s.hl (s.readByte s.hl), .write s.hl (op (s.readByte s.hl)).result] } ∧
      Written s.mem m s.hl (op (s.readByte s.hl)).result := by
  refine ⟨_, ?_, written_writeByte s.mem s.hl _⟩
  rw [stepIndHl_eq, List.append_assoc]
  rfl

/-- Settles O42: the register form and the form at HL, with `inc8` and `dec8` as sums and flag bytes. -/
theorem eightBitCountsComplete : Obligations.EightBitCountsComplete := by
  unfold Obligations.EightBitCountsComplete
  refine ⟨fun r s => ⟨⟨.of_encode (encode_incReg r), ?_⟩, .of_encode (encode_decReg r), ?_⟩,
    fun s => ⟨⟨.of_encode rfl, ?_⟩, .of_encode rfl, ?_⟩⟩
  · rw [exec_incReg, stepReg_eq, inc8_apply, inc8_result]
  · rw [exec_decReg, stepReg_eq, dec8_apply, dec8_result]
  · rw [← inc8_apply, ← inc8_result]
    exact stepIndHl_written inc8 s
  · rw [← dec8_apply, ← dec8_result]
    exact stepIndHl_written dec8 s

/-! ## Accumulator operations and `ADD HL,rr` (44_arith_logic.md) -/

theorem exec_addHlPair (p : Pair) (s : State) : exec (.addHlPair p) s = .next (addHl p s) := by
  cases p <;> rfl

theorem encode_addHlPair (p : Pair) : encode (.addHlPair p) = [BitVec.ofNat 8 (0x09 + 16 * p.code)] := by
  cases p <;> rfl

/-- Settles O43: `add16` as a sum and a flag byte. -/
theorem addHlCompletes : Obligations.AddHlCompletes := by
  unfold Obligations.AddHlCompletes
  refine fun p s => ⟨.of_encode (encode_addHlPair p), ?_⟩
  rw [exec_addHlPair, addHl_eq, add16_result, apply_eq_withFlags, add16_flags]
  rfl

theorem exec_aluReg (op : AluOp) (r : Reg8) (s : State) : exec (.aluReg op r) s = .next (aluReg op r s) := by
  cases op <;> cases r <;> rfl

theorem encode_aluReg (op : AluOp) (r : Reg8) :
    encode (.aluReg op r) = [BitVec.ofNat 8 (0x80 + 8 * op.code + r.code)] := by
  cases op <;> cases r <;> rfl

theorem exec_aluIndHl (op : AluOp) (s : State) : exec (.aluIndHl op) s = .next (aluIndHl op s) := by
  cases op <;> rfl

theorem encode_aluIndHl (op : AluOp) : encode (.aluIndHl op) = [BitVec.ofNat 8 (0x86 + 8 * op.code)] := by
  cases op <;> rfl

theorem exec_aluD8 (op : AluOp) (v : Byte) (s : State) : exec (.aluD8 op v) s = .next (aluImm op v s) := by
  cases op <;> rfl

theorem encode_aluD8 (op : AluOp) (v : Byte) : encode (.aluD8 op v) = [BitVec.ofNat 8 (0xC6 + 8 * op.code), v] := by
  cases op <;> rfl

/-- The rows of an accumulator operation, from what it computes of A, the operand and Carry. -/
theorem accumulatorRows_of_run {op : AluOp} {newA : Byte → Byte → Bool → Byte} {newF : Byte → Byte → Byte → Byte}
    (hA : ∀ a v c, (AluOp.run op a v c).result = newA a v c)
    (hF : ∀ f a v, (AluOp.run op a v (flagC f)).flags.apply f = newF f a v) : AccumulatorRows op newA newF := by
  refine ⟨fun r s => ⟨.of_encode (encode_aluReg op r), ?_⟩, fun s => ⟨.of_encode (encode_aluIndHl op), ?_⟩,
    fun v s => ⟨.of_encode (encode_aluD8 op v), ?_⟩⟩
  · rw [exec_aluReg, aluReg_eq, hA, hF]; rfl
  · rw [exec_aluIndHl, aluIndHl_eq, hA, hF]; rfl
  · rw [exec_aluD8, aluImm_eq, hA, hF]; rfl

theorem decide_toNat_eq_zero (r : Byte) : decide (r.toNat = 0) = decide (r = 0) :=
  (beq_zero_eq_decide_toNat r).symm

theorem adc8_apply (a v : Byte) (c : Bool) (f : Byte) :
    (adc8 a v c).flags.apply f =
      withFlags f (decide (a + v + BitVec.ofNat 8 c.toNat = 0)) false
        (decide ((a &&& 0xF).toNat + (v &&& 0xF).toNat + c.toNat > 0xF))
        (decide (a.toNat + v.toNat + c.toNat > 0xFF)) := by
  rw [apply_eq_withFlags, adc8_flags, ← adc8_result_toNat, decide_toNat_eq_zero, adc8_result]
  rfl

theorem sub8_apply (a v f : Byte) :
    (sub8 a v).flags.apply f =
      withFlags f (decide (a = v)) true (decide ((a &&& 0xF).toNat < (v &&& 0xF).toNat))
        (decide (a.toNat < v.toNat)) := by
  rw [apply_eq_withFlags, sub8_flags, decide_eq_decide.2 (byte_sub_mod_eq_zero_iff a v)]
  rfl

theorem sbc8_apply (a v : Byte) (c : Bool) (f : Byte) :
    (sbc8 a v c).flags.apply f =
      withFlags f (decide (a - v - BitVec.ofNat 8 c.toNat = 0)) true
        (decide ((a &&& 0xF).toNat < (v &&& 0xF).toNat + c.toNat))
        (decide (a.toNat < v.toNat + c.toNat)) := by
  rw [apply_eq_withFlags, sbc8_flags, ← sbc8_result_toNat, decide_toNat_eq_zero, sbc8_result]
  rfl

/-- Settles O44: the results as sums; Z tests the result, H and C the exact sums; `ADD` is `ADC` with Carry clear. -/
theorem addAndAddWithCarryComplete : Obligations.AddAndAddWithCarryComplete := by
  unfold Obligations.AddAndAddWithCarryComplete
  refine ⟨accumulatorRows_of_run (fun a v _ => add8_result a v) fun f a v => ?_,
    accumulatorRows_of_run adc8_result fun f a v => adc8_apply a v (f.getLsbD 4) f⟩
  have hadc := adc8_apply a v false f
  rwa [Bool.toNat_false, BitVec.add_zero, Nat.add_zero, Nat.add_zero] at hadc

/-- Settles O45: the results as differences; `CP` has the flags of `SUB`. -/
theorem subtractsAndCompareComplete : Obligations.SubtractsAndCompareComplete := by
  unfold Obligations.SubtractsAndCompareComplete
  exact ⟨accumulatorRows_of_run (fun a v _ => sub8_result a v) fun f a v => sub8_apply a v f,
    accumulatorRows_of_run sbc8_result fun f a v => sbc8_apply a v (f.getLsbD 4) f,
    accumulatorRows_of_run (fun _ _ _ => rfl) fun f a v => sub8_apply a v f⟩

/-- Settles O46: the results are the bitwise operations; the zero tests are about the operands for `XOR` and `OR`. -/
theorem logicOperationsComplete : Obligations.LogicOperationsComplete := by
  unfold Obligations.LogicOperationsComplete
  refine ⟨accumulatorRows_of_run (fun _ _ _ => rfl) fun f a v => apply_eq_withFlags _ f,
    accumulatorRows_of_run (fun _ _ _ => rfl) fun f a v => ?_,
    accumulatorRows_of_run (fun _ _ _ => rfl) fun f a v => ?_⟩
  · have hz : a ^^^ v = 0 ↔ a = v := BitVec.xor_eq_zero_iff
    rw [← decide_eq_decide.2 hz]
    exact apply_eq_withFlags _ f
  · have hz : a ||| v = 0 ↔ a = 0 ∧ v = 0 := BitVec.or_eq_zero_iff
    rw [← decide_eq_decide.2 hz]
    exact apply_eq_withFlags _ f

end Sys2Proof.Machine
end

section
/-! SUPPORT. Proofs of the statements about jumps, calls, returns and the stack, about the flag and accumulator
operations and the system instructions. -/

namespace Sys2Proof.Machine

open Sys2Proof.Spec

/-! ## Conditions -/

theorem condHolds_eq_conditionOf (s : State) (cc : Cond) : s.condHolds cc = conditionOf s cc := by
  cases cc <;> rfl

theorem exec_jrCond (cc : Cond) (d : Byte) (s : State) : exec (.jrCond cc d) s = .next (jumpRelativeIf cc d s) := by
  cases cc <;> rfl

theorem encode_jrCond (cc : Cond) (d : Byte) : encode (.jrCond cc d) = [BitVec.ofNat 8 (0x20 + 8 * cc.code), d] := by
  cases cc <;> rfl

theorem exec_jpCond (cc : Cond) (t : Word) (s : State) : exec (.jpCond cc t) s = .next (jumpAbsoluteIf cc t s) := by
  cases cc <;> rfl

theorem encode_jpCond (cc : Cond) (t : Word) :
    encode (.jpCond cc t) = [BitVec.ofNat 8 (0xC2 + 8 * cc.code), loByte t, hiByte t] := by
  cases cc <;> rfl

theorem exec_callCond (cc : Cond) (t : Word) (s : State) : exec (.callCond cc t) s = .next (callAbsoluteIf cc t s) := by
  cases cc <;> rfl

theorem encode_callCond (cc : Cond) (t : Word) :
    encode (.callCond cc t) = [BitVec.ofNat 8 (0xC4 + 8 * cc.code), loByte t, hiByte t] := by
  cases cc <;> rfl

theorem exec_retCond (cc : Cond) (s : State) : exec (.retCond cc) s = .next (returnIf cc s) := by
  cases cc <;> rfl

theorem encode_retCond (cc : Cond) : encode (.retCond cc) = [BitVec.ofNat 8 (0xC0 + 8 * cc.code)] := by
  cases cc <;> rfl

/-! ## Jumps (45_jumps_calls_returns.md) -/

/-- Settles O47: both outcomes of the condition, the displacement added as an integer. -/
theorem relativeJumpsComplete : Obligations.RelativeJumpsComplete := by
  unfold Obligations.RelativeJumpsComplete
  refine ⟨fun d s => ⟨.of_encode rfl, ?_⟩, fun cc d s => ⟨.of_encode (encode_jrCond cc d), fun h => ?_, fun h => ?_⟩⟩
  · rw [← add_signExtend16]
    exact congrArg Host.Outcome.next (jumpRelative_eq d s)
  · rw [exec_jrCond, jumpRelativeIf_eq, condHolds_eq_conditionOf, if_pos h, if_pos h, add_signExtend16]
  · rw [exec_jrCond, jumpRelativeIf_eq, condHolds_eq_conditionOf, h]
    rfl

/-- Settles O49: both outcomes of the condition, and `JP HL` by its form. -/
theorem conditionalAndIndirectJumpsComplete : Obligations.ConditionalAndIndirectJumpsComplete := by
  unfold Obligations.ConditionalAndIndirectJumpsComplete
  refine ⟨fun cc t s => ⟨.of_encode (encode_jpCond cc t), fun h => ?_, fun h => ?_⟩,
    fun s => ⟨.of_encode rfl, congrArg Host.Outcome.next (jumpHl_eq s)⟩⟩
  · rw [exec_jpCond, jumpAbsoluteIf_eq, condHolds_eq_conditionOf, if_pos h, if_pos h]
  · rw [exec_jpCond, jumpAbsoluteIf_eq, condHolds_eq_conditionOf, h]
    rfl

theorem exec_jpA16 (t : Word) (s : State) : exec (.jpA16 t) s = .next { s with pc := t, cycles := s.cycles + 4 } :=
  congrArg Host.Outcome.next (jumpAbsolute_eq t s)

/-- An unbacked address reads 0xFF (decisions D9 and D10). -/
theorem readByte_unbacked (s : State) {x : Word} (hx : unbacked x = true) : s.readByte x = 0xFF := by
  rw [State.readByte, Memory.readByte, backedAt_eq_not_unbacked, hx]
  rfl

/-- A step from an unbacked address runs `RST 38H` (70_reset_and_hazards.md section 3). -/
theorem step_at_unbacked {s : State} (hs : s.halted = false) (hx : unbacked s.pc = true) :
    step s = .next (restart 7 (fetched s 1)) := by
  have hbytes : bytesAt s s.pc 3 = [0xFF, s.readByte (s.pc + 1), s.readByte (s.pc + 1 + 1)] := by
    rw [← readByte_unbacked s hx]
    rfl
  have hd : decode (bytesAt s s.pc 3) = .ok .rst38H [s.readByte (s.pc + 1), s.readByte (s.pc + 1 + 1)] := by
    rw [hbytes]
    exact decodeOfEncode .rst38H _
  exact step_eq_exec_fetched hs hd

/-- Settles O48: the form, the document's bytes as the encoding of `JP 0x1234`, and the step at the unbacked target. -/
theorem absoluteJumpCompletes : Obligations.AbsoluteJumpCompletes := by
  unfold Obligations.AbsoluteJumpCompletes
  refine ⟨fun t s => ⟨.of_encode ?_, exec_jpA16 t s⟩, fun s hs hb => ?_, fun t s ht hs => ?_⟩
  · rw [← hiByte_eq_ofNat, ← loByte_eq_ofNat]
    rfl
  · have hd : decode (bytesAt s s.pc 3) = .ok (.jpA16 0x1234) [] := by rw [hb]; decide
    rw [step_eq_exec_fetched hs hd]
    exact ⟨_, exec_jpA16 _ _, rfl, rfl⟩
  · refine ⟨_, _, exec_jpA16 t s, step_at_unbacked hs ht, ?_, rfl, rfl⟩
    exact readByte_unbacked s ht

/-! ## The stack (46_stack_and_restart.md) -/

/-- A pop gives back the value of a push whose two bytes are stored. -/
theorem top16_push16 {s : State} (hhi : storable (s.sp - 1) = true) (hlo : storable (s.sp - 2) = true) (v : Word) :
    (s.push16 v).top16 = v := by
  have hsp : s.sp - 2 + 1 = s.sp - 1 := by bv_omega
  have hread := push16_written s v
  have hlow : (s.push16 v).readByte (s.sp - 2) = loByte v := by
    refine (hread _).trans ?_
    rw [if_neg fun h => stackSlots_ne s.sp h.1.symm, if_pos ⟨rfl, hlo⟩]
  have hhigh : (s.push16 v).readByte (s.sp - 1) = hiByte v := (hread _).trans (if_pos ⟨rfl, hhi⟩)
  rw [State.top16, State.push16_sp, hsp, hlow, hhigh, word16_hiByte_loByte]

/-- Settles O52: the two primitives as record updates, read with the memory as `WrittenTwice` describes it. -/
theorem stackPrimitivesFollowTheirContract : Obligations.StackPrimitivesFollowTheirContract := by
  unfold Obligations.StackPrimitivesFollowTheirContract
  refine ⟨fun s v => ?_, fun s => ⟨word16_toNat .., dropTop_eq s⟩, fun s hlo hhi => ?_,
    fun s v hhi hlo => ⟨top16_push16 hhi hlo v, BitVec.sub_add_cancel s.sp 2⟩⟩
  · rw [← hiByte_eq_ofNat, ← loByte_eq_ofNat]
    exact ⟨_, push16_eq v s, writtenTwice_writeByte s.mem (stackSlots_ne s.sp) _ _⟩
  · rw [State.top16, readByte_unbacked s hlo, readByte_unbacked s hhi]
    rfl

/-- What a push with a transfer of control answers: the bytes pushed, and PC at the target. -/
theorem pushed_written (v t : Word) (n : Nat) (s : State) :
    ∃ m, (.next (((s.push16 v).jump t).charge n) : Result) = .next
        { s with
          sp := s.sp - 2, pc := t, mem := m, cycles := s.cycles + n
          bus := s.bus ++ [.write (s.sp - 1) (hiByte v), .write (s.sp - 2) (loByte v)] } ∧
      WrittenTwice s.mem m (s.sp - 1) (hiByte v) (s.sp - 2) (loByte v) := by
  refine ⟨_, ?_, writtenTwice_writeByte s.mem (stackSlots_ne s.sp) _ _⟩
  rw [push16_eq]
  rfl

theorem exec_rst (y : Fin 8) (s : State) : exec (.rst y) s = .next (restart y s) := by
  fin_cases y <;> rfl

theorem encode_rst (y : Fin 8) : encode (.rst y) = [BitVec.ofNat 8 (0xC7 + 8 * y.val)] := by
  fin_cases y <;> rfl

/-- Settles O50: one push, with PC at the target of each form; a condition that is false only charges. -/
theorem callsAndRestartsComplete : Obligations.CallsAndRestartsComplete := by
  unfold Obligations.CallsAndRestartsComplete
  refine ⟨fun t s => ⟨.of_encode rfl, pushed_written s.pc t 6 s⟩,
    fun cc t s => ⟨.of_encode (encode_callCond cc t), fun h => ?_, fun h => ?_⟩,
    fun y s => ⟨.of_encode (encode_rst y), ?_⟩⟩
  · rw [exec_callCond, callAbsoluteIf, condHolds_eq_conditionOf, if_pos h]
    exact pushed_written s.pc t 6 s
  · rw [exec_callCond, callAbsoluteIf, condHolds_eq_conditionOf, h]
    rfl
  · rw [exec_rst, restart, restartTarget, Nat.mul_comm]
    exact pushed_written s.pc _ 4 s

/-- What a return answers. -/
theorem popPc_charge_eq (n : Nat) (s : State) :
    (popPc s).charge n =
      { s with
        pc := word16 (s.readByte (s.sp + 1)) (s.readByte s.sp), sp := s.sp + 2, cycles := s.cycles + n
        bus := s.bus ++ [.read s.sp (s.readByte s.sp), .read (s.sp + 1) (s.readByte (s.sp + 1))] } := by
  rw [popPc_eq]
  rfl

/-- Settles O51: one return, at the cost of each form; a condition that is false only charges. -/
theorem returnsComplete : Obligations.ReturnsComplete := by
  unfold Obligations.ReturnsComplete
  refine fun s => ⟨⟨.of_encode rfl, congrArg Host.Outcome.next (popPc_charge_eq 4 s)⟩,
    ⟨.of_encode rfl, congrArg Host.Outcome.next (popPc_charge_eq 4 s)⟩,
    fun cc => ⟨.of_encode (encode_retCond cc), fun h => ?_, fun h => ?_⟩⟩
  · rw [exec_retCond, returnIf, condHolds_eq_conditionOf, if_pos h, popPc_charge_eq]; rfl
  · rw [exec_retCond, returnIf, condHolds_eq_conditionOf, h]
    rfl

theorem exec_pushPair (p : StackPair) (s : State) : exec (.pushPair p) s = .next (pushPair p s) := by
  cases p <;> rfl

theorem encode_pushPair (p : StackPair) : encode (.pushPair p) = [BitVec.ofNat 8 (0xC5 + 16 * p.code)] := by
  cases p <;> rfl

theorem exec_popPair (p : StackPair) (s : State) : exec (.popPair p) s = .next (popPair p s) := by
  cases p <;> rfl

theorem hiByte_getStackPair (s : State) (p : StackPair) : hiByte (s.getStackPair p) = pairHigh s p := by
  cases p <;> exact hiByte_word16 ..

theorem loByte_getStackPair (s : State) (p : StackPair) : loByte (s.getStackPair p) = pairLow s p := by
  cases p <;> exact loByte_word16 ..

/-- What `POP` answers, before the word is taken apart into the registers of the pair. -/
theorem popPair_record_eq (p : StackPair) (s : State) :
    popPair p s =
      ({ s with
          sp := s.sp + 2, cycles := s.cycles + 3
          bus := s.bus ++ [.read s.sp (s.readByte s.sp), .read (s.sp + 1) (s.readByte (s.sp + 1))] } :
        State).setStackPair p s.top16 := by
  rw [popPair_eq, dropTop_eq]

/-- Settles O53: `PUSH` is a push of the two registers, `POP` a pop into them, which masks F. -/
theorem pushAndPopComplete : Obligations.PushAndPopComplete := by
  unfold Obligations.PushAndPopComplete
  refine ⟨fun p s => ⟨.of_encode (encode_pushPair p), ?_⟩, fun s => ?_⟩
  · rw [exec_pushPair, ← hiByte_getStackPair, ← loByte_getStackPair]
    exact pushed_written (s.getStackPair p) s.pc 4 s
  · have hpop (p : StackPair) := (exec_popPair p s).trans (congrArg Host.Outcome.next (popPair_record_eq p s))
    have hhi : hiByte s.top16 = s.readByte (s.sp + 1) := hiByte_word16 ..
    have hlo : loByte s.top16 = s.readByte s.sp := loByte_word16 ..
    refine ⟨⟨.of_encode rfl, (hpop .bc).trans ?_⟩, ⟨.of_encode rfl, (hpop .de).trans ?_⟩,
      ⟨.of_encode rfl, (hpop .hl).trans ?_⟩, .of_encode rfl, (hpop .af).trans ?_⟩
    · simp only [State.setStackPair, State.setBc, hhi, hlo]
    · simp only [State.setStackPair, State.setDe, hhi, hlo]
    · simp only [State.setStackPair, State.setHl, hhi, hlo]
    · simp only [State.setStackPair, State.setAf, maskFlags, hhi, hlo]

theorem pairHigh_setStackPair (s : State) (p : StackPair) (v : Word) : pairHigh (s.setStackPair p v) p = hiByte v := by
  cases p <;> rfl

theorem pairLow_setStackPair (s : State) (p : StackPair) (v : Word) :
    pairLow (s.setStackPair p v) p = if p = .af then loByte v &&& 0xF0 else loByte v := by
  cases p <;> rfl

/-- Settles O54: the pop finds the value pushed, and the pushes and pops of SP cancel. -/
theorem stackRoundTripsRestore : Obligations.StackRoundTripsRestore := by
  unfold Obligations.StackRoundTripsRestore
  refine ⟨fun p s hhi hlo => ?_, fun t s hhi hlo => ?_⟩
  · have htop : (pushPair p s).top16 = s.getStackPair p := top16_push16 hhi hlo _
    refine ⟨_, _, exec_pushPair p s, exec_popPair p _, ?_, ?_, ?_⟩
    · rw [popPair_record_eq, State.setStackPair_sp]
      exact BitVec.sub_add_cancel s.sp 2
    · rw [popPair_record_eq, pairHigh_setStackPair, htop, hiByte_getStackPair]
    · rw [popPair_record_eq, pairLow_setStackPair, htop, loByte_getStackPair]
      cases p <;> rfl
  · exact ⟨_, _, rfl, rfl, rfl, top16_push16 hhi hlo s.pc, BitVec.sub_add_cancel s.sp 2⟩

/-! ## Flag and accumulator operations (47_flag_and_accumulator_ops.md) -/

/-- Settles O55: the flag writes as flag bytes, and the exclusive-or with 0xFF as the complement. -/
theorem carryAndComplementOpsComplete : Obligations.CarryAndComplementOpsComplete := by
  unfold Obligations.CarryAndComplementOpsComplete
  refine fun s => ⟨⟨.of_encode rfl, ?_⟩, ⟨.of_encode rfl, ?_⟩, .of_encode rfl, ?_⟩
  · rw [exec, execScf, setCarry_eq, apply_eq_withFlags]; rfl
  · rw [exec, execCcf, complementCarry_eq, apply_eq_withFlags]; rfl
  · have hnot : s.a ^^^ 0xFF = ~~~s.a := BitVec.xor_allOnes
    rw [exec, execCpl, complementA_eq, apply_eq_withFlags, hnot]; rfl

theorem daa_apply (a : Byte) (n h c : Bool) (f : Byte) :
    (daa a n h c).flags.apply f =
      withFlags f (decide ((daa a n h c).result = 0)) (flagN f) false (daaHigh a n c) := by
  rw [apply_eq_withFlags]
  rfl

/-- Settles O56: the helper in numbers, and Z from its result. -/
theorem decimalAdjustCompletes : Obligations.DecimalAdjustCompletes := by
  unfold Obligations.DecimalAdjustCompletes
  intro s
  refine ⟨.of_encode rfl, ?_⟩
  rw [exec, execDaa, adjustA_eq, daa_apply, daa_result]
  rfl

/-- Settles O57: the shifts with the bit moved in. -/
theorem accumulatorRotatesComplete : Obligations.AccumulatorRotatesComplete := by
  unfold Obligations.AccumulatorRotatesComplete
  intro s
  rw [← shiftIn_low, ← shiftIn_high, ← shiftIn_low, ← shiftIn_high]
  refine ⟨⟨.of_encode rfl, ?_⟩, ⟨.of_encode rfl, ?_⟩, ⟨.of_encode rfl, ?_⟩, .of_encode rfl, ?_⟩
  · rw [exec, execRlca, adjustA_eq, apply_eq_withFlags]; rfl
  · rw [exec, execRrca, adjustA_eq, apply_eq_withFlags]; rfl
  · rw [exec, execRla, adjustA_eq, apply_eq_withFlags]; rfl
  · rw [exec, execRra, adjustA_eq, apply_eq_withFlags]; rfl

/-! ## System and SP-relative instructions (48_halt_and_system.md, 49_sp_relative.md) -/

theorem exec_undef (u : UndefSlot) (s : State) : exec (.undef u) s = .next (noOperation Cost.undef s) := by
  cases u <;> rfl

theorem encode_undef (u : UndefSlot) : encode (.undef u) = [u.byte] := by
  cases u <;> rfl

/-- Settles O58: each is the no-operation form. -/
theorem noOperationSlotsComplete : Obligations.NoOperationSlotsComplete := by
  unfold Obligations.NoOperationSlotsComplete
  refine ⟨fun s => ⟨⟨.of_encode rfl, rfl⟩, ⟨.of_encode rfl, rfl⟩, ⟨.of_encode rfl, rfl⟩, ⟨.of_encode rfl, rfl⟩,
    .of_encode rfl, rfl⟩, fun u s => ⟨.of_encode (encode_undef u), ?_⟩⟩
  rw [exec_undef, noOperation_eq]
  rfl

theorem addsp_apply (sp : Word) (d f : Byte) :
    (addsp sp d).flags.apply f =
      withFlags f false false (decide ((sp &&& 0x000F).toNat + (d &&& 0x0F).toNat > 0x0F))
        (decide ((sp &&& 0x00FF).toNat + d.toNat > 0xFF)) := by
  rw [apply_eq_withFlags, addsp_flags]
  rfl

/-- Settles O59: `addsp` as an integer sum and a flag byte. -/
theorem spRelativeOpsComplete : Obligations.SpRelativeOpsComplete := by
  unfold Obligations.SpRelativeOpsComplete
  intro d s
  rw [← add_signExtend16, ← addsp_apply]
  exact ⟨⟨.of_encode rfl, congrArg Host.Outcome.next (loadHlSpPlus_eq d s)⟩,
    .of_encode rfl, congrArg Host.Outcome.next (addToSp_eq d s)⟩

end Sys2Proof.Machine
end
